-- ==== Sys2Proof/Word.lean ====
section
/-! DEFINITION. The words of the PX256: the widths that its manual gives bytes, stamps, counters and the numbers that name
flows, channels, cell slots and priorities. -/

namespace Sys2Proof

/-- One byte of a cell (R109). -/
abbrev Byte := BitVec 8

/-- A Pace Time stamp: 24 bits, arithmetic modulo 2^24 (R44, R45). -/
abbrev Stamp := BitVec 24

/-- A counter: 32 bits, wrapping (R183). -/
abbrev Counter := BitVec 32

/-- The 28 payload bytes of a cell, byte 0 first on the link (R109, R192). -/
abbrev Payload := Vector Byte 28

/-- The 25 data bytes of a response, data byte 0 first (R125, R193). -/
abbrev ReplyData := Vector Byte 25

/-- A channel as a cell header carries it, 0..1023 (R109). -/
abbrev Channel := BitVec 10

/-- A channel that user cells may use, 0..1022 (R52, R22). -/
abbrev UserChannel := Fin 1023

/-- A flow number, 0..255 (R22). -/
abbrev FlowNo := Fin 256

/-- A cell slot of the Cell Buffer (R68). No request names one. -/
abbrev SlotNo := Fin 1024

/-- A priority, 0..7; 0 is served first (R22, R93). -/
abbrev Priority := Fin 8

end Sys2Proof
end

