-- ==== Sys2Proof/Syntax.lean ====
section
/-! DEFINITION. The commands of the PX256: one constructor for each row of spec/opcode_table.json, in the table's order.
The rows are the part's steps, "each whole and indivisible" (spec/95_what_each_step_holds.md). A request's row is the TAKING of
that request from the head of the Request Queue (R128): its operands are the 28 bytes that wait there, so its constructor has
none of its own (log entry 1). -/

namespace Sys2Proof

/-- The two link ports: T toward the trunk, F toward the field (00_scope.md, Conventions). -/
inductive Port where
  | T
  | F
  deriving DecidableEq, Repr

/-- The event in which a due-time update is made (R3): a conforming POLICE arrival, or a PACE departure on an egress slot. -/
inductive UpdateEvent where
  /-- The arrival of this cell at this port (R7). -/
  | arrival (p : Port) (cell : List Byte)
  /-- The opening of this port's next egress slot (R12). -/
  | slot (p : Port)
  deriving DecidableEq, Repr

/-- The commands. `cell` is the cell as the line delivers it, byte 0 first. -/
inductive Instr where
  /-- ARRIVAL (R111): `cell` is received in full at port `p`. -/
  | arrival (p : Port) (cell : List Byte)
  /-- PROBE_COMPLETION (R187): the arrival of `cell` at `p` whose capture brings the probe to its target count. -/
  | probeCompletion (p : Port) (cell : List Byte)
  /-- CYCLE_BOUNDARY_PROMOTION (R18): the event `e` whose due-time update brings k back to 0 with a contract pending. -/
  | cycleBoundaryPromotion (e : UpdateEvent)
  /-- TICK (R44). -/
  | tick
  /-- CALENDAR_SERVICE (R90): the tick whose calendar service moves a waiting flow. -/
  | calendarService
  /-- EGRESS_SLOT (R93): port `p` opens its next egress slot. -/
  | egressSlot (p : Port)
  /-- DRAIN_COMPLETION (R35): the egress slot of `p` whose departure empties a DRAINING flow's queue. -/
  | drainCompletion (p : Port)
  /-- LINE_OK_ASSERTION (R120): the line-OK input of `p` goes high. -/
  | lineOkAssertion (p : Port)
  /-- LINE_OK_DEASSERTION (R119): the line-OK input of `p` goes low. -/
  | lineOkDeassertion (p : Port)
  /-- RESET_ASSERTION (R118): RESET_N goes low. -/
  | resetAssertion
  /-- RESET_RELEASE (R118): RESET_N goes high; `first` is the port whose transition is handled first (R177). -/
  | resetRelease (first : Port)
  /-- SYNC (R142). -/
  | sync
  /-- READ_TIME (R143). -/
  | readTime
  /-- SET_TIMEBASE (R46, R144). -/
  | setTimebase
  /-- OPEN_FLOW (R27, R145). -/
  | openFlow
  /-- SET_CONTRACT (R14, R146). -/
  | setContract
  /-- COMMIT_CONTRACT (R19, R147). -/
  | commitContract
  /-- SUSPEND_FLOW (R28, R148). -/
  | suspendFlow
  /-- RESUME_FLOW (R29, R30, R149). -/
  | resumeFlow
  /-- CLOSE_FLOW (R32 to R36, R150). -/
  | closeFlow
  /-- READ_FLOW (R151, R152). -/
  | readFlow
  /-- PREPARE_MAP (R57, R153). -/
  | prepareMap
  /-- WRITE_MAP (R56, R154). -/
  | writeMap
  /-- READ_MAP (R58, R155). -/
  | readMap
  /-- SWAP_MAP (R59 to R61, R156). -/
  | swapMap
  /-- SET_WATERMARKS (R84, R157). -/
  | setWatermarks
  /-- READ_POOL (R69, R158). -/
  | readPool
  /-- READ_COUNTERS (R159, R184). -/
  | readCounters
  /-- START_PROBE (R160, R186, R189). -/
  | startProbe
  /-- READ_PROBE (R161). -/
  | readProbe
  /-- GRANT_NOTICES (R162, R176). -/
  | grantNotices
  /-- SET_NOTICE_ENABLE (R163, R173). -/
  | setNoticeEnable
  /-- SOFT_RESET (R164, R165). -/
  | softReset
  /-- UNKNOWN_REQUEST (R132, R196): a request whose code names none of the 22. -/
  | unknownRequest
  deriving DecidableEq, Repr

end Sys2Proof
end

