-- ==== Sys2Proof/WellFormed.lean ====
section
/-! DEFINITION. Which command terms are commands of the part: a received cell has exactly 32 bytes (R109, R111). -/

namespace Sys2Proof

/-- "Every cell on either link is 32 bytes" (R109). -/
def wellFormedCell (cell : List Byte) : Bool :=
  cell.length = 32

/-- The event of a cycle-boundary promotion is well formed. -/
def UpdateEvent.wellFormed : UpdateEvent → Bool
  | .arrival _ cell => wellFormedCell cell
  | .slot _ => true

/-- The command is one the part can be given. Only the rows that deliver a cell have anything to check. -/
def Instr.wellFormed : Instr → Bool
  | .arrival _ cell => wellFormedCell cell
  | .probeCompletion _ cell => wellFormedCell cell
  | .cycleBoundaryPromotion e => e.wellFormed
  | .tick => true
  | .calendarService => true
  | .egressSlot _ => true
  | .drainCompletion _ => true
  | .lineOkAssertion _ => true
  | .lineOkDeassertion _ => true
  | .resetAssertion => true
  | .resetRelease _ => true
  | .sync => true
  | .readTime => true
  | .setTimebase => true
  | .openFlow => true
  | .setContract => true
  | .commitContract => true
  | .suspendFlow => true
  | .resumeFlow => true
  | .closeFlow => true
  | .readFlow => true
  | .prepareMap => true
  | .writeMap => true
  | .readMap => true
  | .swapMap => true
  | .setWatermarks => true
  | .readPool => true
  | .readCounters => true
  | .startProbe => true
  | .readProbe => true
  | .grantNotices => true
  | .setNoticeEnable => true
  | .softReset => true
  | .unknownRequest => true

end Sys2Proof
end

