-- ==== Sys2Proof/Decode.lean ====
section
/-! DEFINITION. The command that a word of the table's bits spells. No row of spec/opcode_table.json gives any bits (every
"fields" list is empty and no row has a "fixed" pattern), so no word spells a command. The bit layouts that the spec does
give, of cells and of management payloads, are in Machine/Cells.lean and Machine/Operands.lean. -/

namespace Sys2Proof

/-- No row of the table gives bits: no word spells a command. -/
def decodeTableWord (_nbits _w : Nat) : Option Instr :=
  none

end Sys2Proof
end

