-- ==== Sys2Proof/Config.lean ====
section
/-! DEFINITION. What is fixed for the part: its identity and capacities (R142), its queue depths, and the values that
power-on reset gives its settings. The spec leaves no value of a command's result open, so there is no free value here. -/

namespace Sys2Proof.Config

/-- Part code PX256 (R142, R194). -/
def partCode : BitVec 16 := 0x0256

/-- Revision 1 (R142). -/
def revision : Byte := 1

/-- Flows in the Flow Table (R142). -/
def flowCount : Nat := 256

/-- Cell slots in the Cell Buffer (R68, R142). -/
def cellSlots : Nat := 1024

/-- Records the Notice Queue holds (R142, R169). -/
def noticeRecords : Nat := 32

/-- Slots of the Release Calendar (R87, R142). -/
def calendarSlots : Nat := 1024

/-- Entries the Request Queue holds (R127). -/
def requestDepth : Nat := 4

/-- Entries the Response Queue holds (R129). -/
def responseDepth : Nat := 4

/-- Records of kinds other than NOTICES_LOST that the Notice Queue holds (R169, R171). -/
def noticePlaces : Nat := 31

/-- The highest notice credit (R169, R176). -/
def creditLimit : Nat := 32

/-- The power-on tick divisor (R43). -/
def powerOnDivisor : Nat := 50

/-- How far behind now a due time must be for the Refresh Sweep to rebase it (R49). -/
def rebaseLag : Nat := 65536

/-- How far D may lie after now (R13). -/
def dueLead : Nat := 131071

/-- How far D may lie before now (R13). -/
def dueLag : Nat := 65791

end Sys2Proof.Config
end

