-- ==== Sys2Proof/Machine/State.lean ====
section
/-! DEFINITION. Everything the spec gives the PX256 as state, as plain data, one structure for each block of the block
overview of 00_scope.md, with its values after power-on reset. INVENTORY.md lists every field with the rule that names it. -/

namespace Sys2Proof.Machine

/-! ## Contracts and flows -/

/-- What a flow's contract does with its cells (R1). -/
inductive Mode where
  | pass
  | policeTag
  | policeDrop
  | pace
  deriving DecidableEq, Repr

/-- A contract record (R1): mode, P, C, E, T. -/
structure Contract where
  mode : Mode
  /-- P, 2..65535 ticks. -/
  period : BitVec 16
  /-- C, 1..16. -/
  cycle : Nat
  /-- E, 0..C−1. -/
  extension : Nat
  /-- T, 0..65535 ticks. -/
  tolerance : BitVec 16
  deriving DecidableEq, Repr

/-- Lifecycle states (R25). `opened` is the manual's OPEN. -/
inductive Lifecycle where
  | unused
  | opened
  | suspended
  | draining
  deriving DecidableEq, Repr

/-- Scheduling states (R26). -/
inductive Sched where
  | empty
  | ready
  | waiting
  | held
  deriving DecidableEq, Repr

/-- A flow record (R22). Its counters are the Counter Bank's and its reference count the Channel Map's. -/
structure FlowRecord where
  lifecycle : Lifecycle
  egressPort : Port
  egressChannel : UserChannel
  priority : Priority
  /-- 1..64. -/
  queueLimit : Nat
  active : Contract
  pending : Option Contract
  /-- D. -/
  due : Stamp
  /-- k, 0..C−1. -/
  cyclePos : Nat
  sched : Sched
  /-- X, as last recorded. -/
  eligible : Stamp
  /-- References to cell slots, oldest first (R23). -/
  queue : List SlotNo
  deriving DecidableEq, Repr

/-- The contract of a flow record after reset (R24). -/
def Contract.reset : Contract :=
  { mode := .pass, period := 2, cycle := 1, extension := 0, tolerance := 0 }

/-- A flow record after power-on reset and after SOFT_RESET (R24). -/
def FlowRecord.reset : FlowRecord :=
  { lifecycle := .unused, egressPort := .T, egressChannel := 0, priority := 0, queueLimit := 1,
    active := Contract.reset, pending := none, due := 0, cyclePos := 0, sched := .empty, eligible := 0, queue := [] }

/-! ## Cells and ports -/

/-- A 32-byte cell on a link: the 4 header bytes as one word, first byte highest (R109, R192), and the payload. -/
structure Cell where
  header : BitVec 32
  payload : Payload
  deriving DecidableEq, Repr

/-- Link state of a port (R118). -/
inductive Link where
  | down
  | up
  deriving DecidableEq, Repr

/-- A link port: its line-OK input pin, its link state, and the cell its transmitter is sending (R117, R118). -/
structure LinkPort where
  /-- The pin T_LINE_OK or F_LINE_OK is high. -/
  lineOk : Bool
  link : Link
  /-- The cell of the current egress slot, while it is being sent. -/
  tx : Option Cell
  deriving DecidableEq, Repr

/-- A port just after RESET_N is released with its line-OK input low (R118). -/
def LinkPort.reset : LinkPort :=
  { lineOk := false, link := .down, tx := none }

/-! ## Channel Map -/

/-- One bank: an entry for each channel 0..1022 of each port; `none` is NONE (R52). -/
structure Bank where
  t : Vector (Option FlowNo) 1023
  f : Vector (Option FlowNo) 1023
  deriving DecidableEq, Repr

/-- The two physical banks (R52). -/
inductive BankId where
  | A
  | B
  deriving DecidableEq, Repr

/-- The Channel Map (R52, R63, R64). -/
structure ChannelMap where
  bankA : Bank
  bankB : Bank
  /-- Which bank is Active; the other is Staging. -/
  active : BankId
  generation : BitVec 16
  refCounts : Vector Nat 256
  deriving DecidableEq, Repr

/-- A bank with every entry NONE. -/
def Bank.none : Bank :=
  { t := Vector.replicate 1023 Option.none, f := Vector.replicate 1023 Option.none }

/-- The Channel Map after either reset (R53). -/
def ChannelMap.reset : ChannelMap :=
  { bankA := Bank.none, bankB := Bank.none, active := .A, generation := 0, refCounts := Vector.replicate 256 0 }

/-! ## Cell Buffer -/

/-- What a cell slot in use holds (R23, R68). -/
structure StoredCell where
  de : Bool
  carry : BitVec 4
  label : Byte
  payload : Payload
  deriving DecidableEq, Repr

/-- A slot that nothing has been stored in. The part never reads one (R68): log entry 4. -/
def StoredCell.reset : StoredCell :=
  { de := false, carry := 0, label := 0, payload := Vector.replicate 28 0 }

/-- Watermark actions (R80, R81). -/
inductive ShedAction where
  | noticeOnly
  | shedDe
  | shedBelow (c : Fin 8)
  deriving DecidableEq, Repr

/-- The three watermark levels. -/
inductive Level where
  | one
  | two
  | three
  deriving DecidableEq, Repr

/-- One watermark level: its threshold W, its action, and whether it is raised (R80). -/
structure WaterLevel where
  threshold : Nat
  action : ShedAction
  raised : Bool
  deriving DecidableEq, Repr

/-- The Cell Buffer (R68, R69, R80). The occupancy O is the number of slots that are not on the free list
(`CellBuffer.occupancy` in Machine/Ops.lean). -/
structure CellBuffer where
  slots : Vector StoredCell 1024
  /-- The free list: an unordered collection, kept here in some order; an enqueue takes its head (log entry 3). -/
  freeList : List SlotNo
  peak : Nat
  level1 : WaterLevel
  level2 : WaterLevel
  level3 : WaterLevel
  /-- H, 0..255. -/
  hysteresis : Nat
  deriving DecidableEq, Repr

/-- The Cell Buffer after power-on reset (R70, R80). -/
def CellBuffer.reset : CellBuffer :=
  { slots := Vector.replicate 1024 StoredCell.reset,
    freeList := List.finRange 1024,
    peak := 0,
    level1 := { threshold := 768, action := .noticeOnly, raised := false },
    level2 := { threshold := 896, action := .shedDe, raised := false },
    level3 := { threshold := 992, action := .shedBelow 3, raised := false },
    hysteresis := 32 }

/-! ## Egress arbiters and Time Base -/

/-- The eight ready lists of each port, by priority (R92). -/
structure ReadyLists where
  t : Vector (List FlowNo) 8
  f : Vector (List FlowNo) 8
  deriving DecidableEq, Repr

/-- Every ready list empty (R92). -/
def ReadyLists.reset : ReadyLists :=
  { t := Vector.replicate 8 [], f := Vector.replicate 8 [] }

/-- The Release Calendar with every slot empty (R87). -/
def calendarReset : Vector (List FlowNo) 1024 :=
  Vector.replicate 1024 []

/-- The Time Base (R43, R44, R46, R48). -/
structure TimeBase where
  /-- N as stored: what READ_TIME reports and what the next tick period will use. -/
  divisor : Nat
  /-- The divisor of the tick period under way (R46). -/
  period : Nat
  /-- Reference-clock periods counted since the last tick. -/
  count : Nat
  /-- Pace Time. -/
  now : Stamp
  /-- The Refresh Sweep pointer. -/
  sweep : FlowNo
  deriving DecidableEq, Repr

/-- The Time Base after power-on reset (R43, R44, R48). -/
def TimeBase.reset : TimeBase :=
  { divisor := Config.powerOnDivisor, period := Config.powerOnDivisor, count := 0, now := 0, sweep := 0 }

/-! ## Management Engine -/

/-- The ten status codes (R137). -/
inductive Status where
  | ok
  | accepted
  | badRequest
  | badIndex
  | badValue
  | state
  | mapped
  | busy
  | sequence
  | mapInvalid
  deriving DecidableEq, Repr

/-- A response (R125). -/
structure Response where
  tag : Byte
  code : Byte
  status : Status
  data : ReplyData
  deriving DecidableEq, Repr

/-- The Management Engine (R127, R129, R131, R134). A waiting request is its 28 bytes as they arrived (R124). -/
structure Management where
  requests : List Payload
  responses : List Response
  /-- Q. -/
  expected : Byte
  /-- `none` is the invalid cache. -/
  cache : Option Response
  deriving DecidableEq, Repr

/-- The Management Engine after power-on reset (R136). -/
def Management.reset : Management :=
  { requests := [], responses := [], expected := 0, cache := none }

/-! ## Notice Queue -/

/-- What a notice is about: its kind together with its subject, each kind with the sort of subject it takes (R168). -/
inductive Notice where
  | poolFull
  | linkDown (p : Port)
  | noticesLost
  | queueFull (f : FlowNo)
  | watermarkUp (l : Level)
  | headerErrors (p : Port)
  | flowClosed (f : FlowNo)
  | linkUp (p : Port)
  | watermarkDown (l : Level)
  | contractPromoted (f : FlowNo)
  | probeDone (f : FlowNo)
  deriving DecidableEq, Repr

/-- Notice details (R167). -/
inductive Detail where
  | none
  | drained
  | flushed
  | complete
  | aborted
  deriving DecidableEq, Repr

/-- A queued notice record (R167). Its severity is fixed by its kind (`Notice.severity` in Machine/Flags.lean). -/
structure NoticeRecord where
  what : Notice
  /-- 1..255, saturating. -/
  count : Nat
  /-- Pace Time of the posting that appended the record. -/
  stamp : Stamp
  detail : Detail
  deriving DecidableEq, Repr

/-- The Notice Queue unit (R169). -/
structure NoticeUnit where
  records : List NoticeRecord
  credit : Nat
  /-- The number the next emitted notice will carry. -/
  seq : Byte
  /-- The enable set, bit (code − 1) for the kind with that code (R195). -/
  enabled : BitVec 11
  deriving DecidableEq, Repr

/-- The Notice Queue unit after power-on reset (R177). -/
def NoticeUnit.reset : NoticeUnit :=
  { records := [], credit := 0, seq := 0, enabled := BitVec.allOnes 11 }

/-! ## Counter Bank and Arrival Probe -/

/-- The six counters of a flow (R181). -/
structure FlowCounters where
  accepted : Counter
  tagged : Counter
  policed : Counter
  dropped : Counter
  sent : Counter
  flushed : Counter
  deriving DecidableEq, Repr

/-- The six counters of a port (R182). -/
structure PortCounters where
  received : Counter
  headerErrors : Counter
  unmapped : Counter
  misdirected : Counter
  requestsDropped : Counter
  sent : Counter
  deriving DecidableEq, Repr

/-- Every counter of a flow 0 (R183). -/
def FlowCounters.zero : FlowCounters :=
  { accepted := 0, tagged := 0, policed := 0, dropped := 0, sent := 0, flushed := 0 }

/-- Every counter of a port 0 (R183). -/
def PortCounters.zero : PortCounters :=
  { received := 0, headerErrors := 0, unmapped := 0, misdirected := 0, requestsDropped := 0, sent := 0 }

/-- The Counter Bank (R181, R182). -/
structure CounterBank where
  flows : Vector FlowCounters 256
  portT : PortCounters
  portF : PortCounters
  deriving DecidableEq, Repr

/-- Every counter 0 (R183). -/
def CounterBank.reset : CounterBank :=
  { flows := Vector.replicate 256 FlowCounters.zero, portT := PortCounters.zero, portF := PortCounters.zero }

/-- The verdict of the contract judgement (R4). -/
inductive Verdict where
  | conforming
  | nonconforming
  | unjudged
  deriving DecidableEq, Repr

/-- How admission ended (R185). -/
inductive Admission where
  | queued
  | discardedPolice
  | discardedShed
  | discardedQueue
  | discardedPool
  deriving DecidableEq, Repr

/-- Probe states (R185). -/
inductive ProbeState where
  | idle
  | armed
  | done
  | aborted
  deriving DecidableEq, Repr

/-- One captured arrival (R185). -/
structure ProbeEntry where
  /-- 0..65535 ticks, saturating. -/
  interval : BitVec 16
  verdict : Verdict
  outcome : Admission
  deriving DecidableEq, Repr

/-- The probe record (R185). -/
structure Probe where
  state : ProbeState
  flow : FlowNo
  /-- 1..8, or 0 after a reset. -/
  target : Nat
  lastStamp : Stamp
  /-- Oldest first. -/
  entries : List ProbeEntry
  deriving DecidableEq, Repr

/-- The probe record after either reset (R185). -/
def Probe.reset : Probe :=
  { state := .idle, flow := 0, target := 0, lastStamp := 0, entries := [] }

/-! ## The whole machine -/

/-- The PX256, with the model's own queue of waiting commands. -/
structure State where
  /-- The commands waiting, first in, first out: the model's own field. -/
  pending : List Instr
  /-- RESET_N is low (R118). -/
  resetHeld : Bool
  portT : LinkPort
  portF : LinkPort
  map : ChannelMap
  flows : Vector FlowRecord 256
  buffer : CellBuffer
  /-- The Release Calendar (R87). -/
  calendar : Vector (List FlowNo) 1024
  ready : ReadyLists
  time : TimeBase
  mgmt : Management
  notices : NoticeUnit
  counters : CounterBank
  probe : Probe
  deriving DecidableEq, Repr

/-- The part just after a power-on reset: RESET_N has been released with both line-OK inputs low, so both ports are DOWN
(R118; log entry 2), and no command waits. -/
def State.reset : State :=
  { pending := [],
    resetHeld := false,
    portT := LinkPort.reset,
    portF := LinkPort.reset,
    map := ChannelMap.reset,
    flows := Vector.replicate 256 FlowRecord.reset,
    buffer := CellBuffer.reset,
    calendar := calendarReset,
    ready := ReadyLists.reset,
    time := TimeBase.reset,
    mgmt := Management.reset,
    notices := NoticeUnit.reset,
    counters := CounterBank.reset,
    probe := Probe.reset }

/-- Why the part would stop. No rule of the spec stops it: every command, in every state, has an effect or none, so this
type has no constructor. -/
inductive Fault where
  deriving DecidableEq, Repr

/-- Why the model would give a command no meaning. -/
inductive Refusal where
  /-- Raised by `exec` for a row of the table that has no meaning yet; safe, since the run stops. No arm raises it now. -/
  | notModelled (mnemonic : String)
  deriving DecidableEq, Repr

end Sys2Proof.Machine
end

