-- ==== Sys2Proof/Machine/Ops.lean ====
section
/-! DEFINITION. The named operations that the commands share: the modular order of stamps, reading and updating one piece of
state, the map banks, the pool, the ready lists and the calendar, and the placement of a flow. -/

namespace Sys2Proof.Machine

/-! ## Stamps (R45) -/

/-- Stamp `a` is not before stamp `b` (R45). -/
def notBefore (a b : Stamp) : Bool :=
  (a - b).toNat < 2 ^ 23

/-- Stamp `a` is before stamp `b` (R45). -/
def before (a b : Stamp) : Bool :=
  !notBefore a b

/-- Stamp `a` is after stamp `b` (R45). -/
def after (a b : Stamp) : Bool :=
  before b a

/-- The later of two stamps (R45). -/
def maxStamp (a b : Stamp) : Stamp :=
  if notBefore a b then a else b

/-! ## Ports -/

/-- The other port (00_scope.md, Conventions). -/
def otherPort : Port → Port
  | .T => .F
  | .F => .T

/-! ## One named update for each block of the state -/

/-- `s` with another port record for `p`. -/
def State.setPort (s : State) (p : Port) (x : LinkPort) : State :=
  match p with
  | .T => { s with portT := x }
  | .F => { s with portF := x }

/-- The port record of `p`. -/
def State.port (s : State) : Port → LinkPort
  | .T => s.portT
  | .F => s.portF

/-- `s` with another Channel Map. -/
def State.withMap (s : State) (x : ChannelMap) : State :=
  { s with map := x }

/-- `s` with another Flow Table. -/
def State.withFlows (s : State) (x : Vector FlowRecord 256) : State :=
  { s with flows := x }

/-- `s` with another Cell Buffer. -/
def State.withBuffer (s : State) (x : CellBuffer) : State :=
  { s with buffer := x }

/-- `s` with another Release Calendar. -/
def State.withCalendar (s : State) (x : Vector (List FlowNo) 1024) : State :=
  { s with calendar := x }

/-- `s` with other ready lists. -/
def State.withReady (s : State) (x : ReadyLists) : State :=
  { s with ready := x }

/-- `s` with another Time Base. -/
def State.withTime (s : State) (x : TimeBase) : State :=
  { s with time := x }

/-- `s` with another Management Engine. -/
def State.withMgmt (s : State) (x : Management) : State :=
  { s with mgmt := x }

/-- `s` with another Notice Queue unit. -/
def State.withNotices (s : State) (x : NoticeUnit) : State :=
  { s with notices := x }

/-- `s` with another Counter Bank. -/
def State.withCounters (s : State) (x : CounterBank) : State :=
  { s with counters := x }

/-- `s` with another probe record. -/
def State.withProbe (s : State) (x : Probe) : State :=
  { s with probe := x }

/-! ## Time -/

/-- Now: the Pace Time at which the event is handled (R44). -/
def State.now (s : State) : Stamp :=
  s.time.now

/-! ## Flow records -/

/-- The record of flow `f`. -/
def State.flow (s : State) (f : FlowNo) : FlowRecord :=
  s.flows.get f

/-- `s` with another record for flow `f`. -/
def State.setFlow (s : State) (f : FlowNo) (r : FlowRecord) : State :=
  s.withFlows (s.flows.set f.val r f.isLt)

/-- Every one of the 256 flows is UNUSED (R46). -/
def State.allUnused (s : State) : Bool :=
  s.flows.toList.all fun r => r.lifecycle = .unused

/-- The eligible time X = D − T, modulo 2^24 (R11). -/
def FlowRecord.eligibleTime (r : FlowRecord) : Stamp :=
  r.due - r.active.tolerance.setWidth 24

/-- A PACE flow whose eligible time is after now: it has to wait (R11, R77, R98). -/
def FlowRecord.mustWait (r : FlowRecord) (now : Stamp) : Bool :=
  r.active.mode = .pace && after r.eligibleTime now

/-! ## Counters (R183: each increment is modulo 2^32) -/

/-- The counters of flow `f`. -/
def State.flowCounters (s : State) (f : FlowNo) : FlowCounters :=
  s.counters.flows.get f

/-- `s` with other counters for flow `f`. -/
def State.setFlowCounters (s : State) (f : FlowNo) (c : FlowCounters) : State :=
  s.withCounters { s.counters with flows := s.counters.flows.set f.val c f.isLt }

/-- The counters of port `p`. -/
def State.portCounters (s : State) : Port → PortCounters
  | .T => s.counters.portT
  | .F => s.counters.portF

/-- `s` with other counters for port `p`. -/
def State.setPortCounters (s : State) (p : Port) (c : PortCounters) : State :=
  match p with
  | .T => s.withCounters { s.counters with portT := c }
  | .F => s.withCounters { s.counters with portF := c }

/-- One count on flow `f`. -/
def State.countFlow (s : State) (f : FlowNo) (step : FlowCounters → FlowCounters) : State :=
  s.setFlowCounters f (step (s.flowCounters f))

/-- One count on port `p`. -/
def State.countPort (s : State) (p : Port) (step : PortCounters → PortCounters) : State :=
  s.setPortCounters p (step (s.portCounters p))

/-- Accepted + 1 (R76). -/
def FlowCounters.addAccepted (c : FlowCounters) : FlowCounters :=
  { c with accepted := c.accepted + 1 }

/-- Tagged + 1 (R76). -/
def FlowCounters.addTagged (c : FlowCounters) : FlowCounters :=
  { c with tagged := c.tagged + 1 }

/-- Policed + 1 (R72). -/
def FlowCounters.addPoliced (c : FlowCounters) : FlowCounters :=
  { c with policed := c.policed + 1 }

/-- Dropped + 1 (R73, R74, R75). -/
def FlowCounters.addDropped (c : FlowCounters) : FlowCounters :=
  { c with dropped := c.dropped + 1 }

/-- Sent + 1 (R97). -/
def FlowCounters.addSent (c : FlowCounters) : FlowCounters :=
  { c with sent := c.sent + 1 }

/-- Flushed + n (R36). -/
def FlowCounters.addFlushed (n : Nat) (c : FlowCounters) : FlowCounters :=
  { c with flushed := c.flushed + BitVec.ofNat 32 n }

/-- Received + 1 (R115). -/
def PortCounters.addReceived (c : PortCounters) : PortCounters :=
  { c with received := c.received + 1 }

/-- HeaderErrors + 1 (R112). -/
def PortCounters.addHeaderErrors (c : PortCounters) : PortCounters :=
  { c with headerErrors := c.headerErrors + 1 }

/-- Unmapped + 1 (R54). -/
def PortCounters.addUnmapped (c : PortCounters) : PortCounters :=
  { c with unmapped := c.unmapped + 1 }

/-- Misdirected + 1 (R113). -/
def PortCounters.addMisdirected (c : PortCounters) : PortCounters :=
  { c with misdirected := c.misdirected + 1 }

/-- RequestsDropped + 1 (R114). -/
def PortCounters.addRequestsDropped (c : PortCounters) : PortCounters :=
  { c with requestsDropped := c.requestsDropped + 1 }

/-- Sent + 1 (R94, R95, R97). -/
def PortCounters.addSent (c : PortCounters) : PortCounters :=
  { c with sent := c.sent + 1 }

/-! ## Channel Map (R52) -/

/-- The entries of one port in a bank. -/
def Bank.entries (b : Bank) : Port → Vector (Option FlowNo) 1023
  | .T => b.t
  | .F => b.f

/-- The bank with other entries for port `p`. -/
def Bank.setEntries (b : Bank) (p : Port) (v : Vector (Option FlowNo) 1023) : Bank :=
  match p with
  | .T => { b with t := v }
  | .F => { b with f := v }

/-- The entry for port `p` and channel `c`. -/
def Bank.entry (b : Bank) (p : Port) (c : UserChannel) : Option FlowNo :=
  (b.entries p).get c

/-- The number of entries of a bank that name flow `f` (R61, R63). -/
def Bank.naming (b : Bank) (f : FlowNo) : Nat :=
  b.t.toList.count (some f) + b.f.toList.count (some f)

/-- The bank with the run of `values` written from channel `first` on, on port `p` (R56). -/
def Bank.writeRun (b : Bank) (p : Port) (first : Nat) (values : List (Option FlowNo)) : Bank :=
  b.setEntries p (Vector.ofFn fun i =>
    if first ≤ i.val then (values[i.val - first]?).getD ((b.entries p).get i) else (b.entries p).get i)

/-- The run of `count` entries of port `p` from channel `first` on (R58). -/
def Bank.readRun (b : Bank) (p : Port) (first count : Nat) : List (Option FlowNo) :=
  ((b.entries p).toList.drop first).take count

/-- The bank that is not `i`. -/
def otherBank : BankId → BankId
  | .A => .B
  | .B => .A

/-- A bank by its identity. -/
def ChannelMap.bank (m : ChannelMap) : BankId → Bank
  | .A => m.bankA
  | .B => m.bankB

/-- The map with another bank `i`. -/
def ChannelMap.setBank (m : ChannelMap) (i : BankId) (b : Bank) : ChannelMap :=
  match i with
  | .A => { m with bankA := b }
  | .B => { m with bankB := b }

/-- The identity of the Staging bank (R52). -/
def ChannelMap.staging (m : ChannelMap) : BankId :=
  otherBank m.active

/-- The Active bank. -/
def ChannelMap.activeBank (m : ChannelMap) : Bank :=
  m.bank m.active

/-- The Staging bank. -/
def ChannelMap.stagingBank (m : ChannelMap) : Bank :=
  m.bank m.staging

/-- A swap: the roles are exchanged, every reference count is recomputed over the new Active bank, and the generation rises by
1, modulo 65536 (R61). -/
def ChannelMap.swap (m : ChannelMap) : ChannelMap :=
  { m with active := m.staging, generation := m.generation + 1, refCounts := Vector.ofFn fun f => m.stagingBank.naming f }

/-- The reference count of flow `f` as the Channel Map holds it (R63). -/
def State.refCount (s : State) (f : FlowNo) : Nat :=
  s.map.refCounts.get f

/-! ## Ready lists and Release Calendar -/

/-- The ready lists of port `p`. -/
def ReadyLists.lists (r : ReadyLists) : Port → Vector (List FlowNo) 8
  | .T => r.t
  | .F => r.f

/-- The ready list of port `p` for priority `q` (R92). -/
def State.readyList (s : State) (p : Port) (q : Priority) : List FlowNo :=
  (s.ready.lists p).get q

/-- `s` with another ready list for port `p` and priority `q`. -/
def State.setReadyList (s : State) (p : Port) (q : Priority) (l : List FlowNo) : State :=
  match p with
  | .T => s.withReady { s.ready with t := s.ready.t.set q.val l q.isLt }
  | .F => s.withReady { s.ready with f := s.ready.f.set q.val l q.isLt }

/-- The index of the calendar slot for a Pace Time: the stamp modulo 1024 (R87). -/
def slotIndex (x : Stamp) : Fin 1024 :=
  ⟨x.toNat % 1024, Nat.mod_lt _ (by decide)⟩

/-- Calendar slot `i` (R87). -/
def State.calendarSlot (s : State) (i : Fin 1024) : List FlowNo :=
  s.calendar.get i

/-- `s` with another list in calendar slot `i`. -/
def State.setCalendarSlot (s : State) (i : Fin 1024) (l : List FlowNo) : State :=
  s.withCalendar (s.calendar.set i.val l i.isLt)

/-- Flow `f` joins the tail of the ready list of its egress port for its priority and is READY (R92). -/
def State.makeReady (s : State) (f : FlowNo) : State :=
  let r := s.flow f
  (s.setReadyList r.egressPort r.priority (s.readyList r.egressPort r.priority ++ [f])).setFlow f { r with sched := .ready }

/-- Flow `f` joins the tail of calendar slot X mod 1024, X is recorded, and it is WAITING (R88). -/
def State.makeWaiting (s : State) (f : FlowNo) : State :=
  let r := s.flow f
  let x := r.eligibleTime
  (s.setCalendarSlot (slotIndex x) (s.calendarSlot (slotIndex x) ++ [f])).setFlow f { r with sched := .waiting, eligible := x }

/-- Flow `f` takes a scheduling state that no structure holds. -/
def State.setSched (s : State) (f : FlowNo) (c : Sched) : State :=
  s.setFlow f { s.flow f with sched := c }

/-- Flow `f` is removed from the structure that holds it, wherever it stands there; the flows behind it keep their order
(R28, R36, R89). Its record is not changed. -/
def State.unschedule (s : State) (f : FlowNo) : State :=
  let r := s.flow f
  match r.sched with
  | .ready => s.setReadyList r.egressPort r.priority ((s.readyList r.egressPort r.priority).erase f)
  | .waiting => s.setCalendarSlot (slotIndex r.eligible) ((s.calendarSlot (slotIndex r.eligible)).erase f)
  | .empty => s
  | .held => s

/-- The placement of a flow that stands in neither structure: by its queue, its lifecycle state and its active contract. It is
the placement of an enqueue on an EMPTY flow (R77), of a resume (R29, R30) and of a departure (R98). -/
def State.place (s : State) (f : FlowNo) : State :=
  let r := s.flow f
  if r.queue = [] then s.setSched f .empty
  else if r.lifecycle = .suspended then s.setSched f .held
  else if r.mustWait s.now then s.makeWaiting f
  else s.makeReady f

/-- The recomputation of the scheduling state after a promotion, by the table of R17. -/
def State.reschedule (s : State) (f : FlowNo) : State :=
  let r := s.flow f
  if r.queue = [] then s.setSched f .empty
  else if r.lifecycle = .suspended then s.setSched f .held
  else if r.mustWait s.now then
    if r.sched = .waiting ∧ r.eligible = r.eligibleTime then s else (s.unschedule f).makeWaiting f
  else if r.sched = .ready then s
  else (s.unschedule f).makeReady f

/-! ## Cell Buffer -/

/-- O, the number of slots in use: those that are not on the free list (R68, R69). -/
def CellBuffer.occupancy (b : CellBuffer) : Nat :=
  Config.cellSlots - b.freeList.length

/-- One watermark level. -/
def CellBuffer.level (b : CellBuffer) : Level → WaterLevel
  | .one => b.level1
  | .two => b.level2
  | .three => b.level3

/-- The buffer with level `l` raised or cleared. -/
def CellBuffer.setRaised (b : CellBuffer) (l : Level) (r : Bool) : CellBuffer :=
  match l with
  | .one => { b with level1 := { b.level1 with raised := r } }
  | .two => { b with level2 := { b.level2 with raised := r } }
  | .three => { b with level3 := { b.level3 with raised := r } }

/-- A cell goes into `slot`, the rest of the free list is `rest`, and the peak follows the new occupancy (R76 items 1 and 2). -/
def CellBuffer.store (b : CellBuffer) (slot : SlotNo) (rest : List SlotNo) (c : StoredCell) : CellBuffer :=
  { b with
    slots := b.slots.set slot.val c slot.isLt
    freeList := rest
    peak := max b.peak (Config.cellSlots - rest.length) }

/-- Slots go back to the free list (R78, R79). The peak is left alone (R69). -/
def CellBuffer.giveBack (b : CellBuffer) (slots : List SlotNo) : CellBuffer :=
  { b with freeList := b.freeList ++ slots }

end Sys2Proof.Machine
end

