-- ==== Sys2Proof/Machine/Flags.lean ====
section
/-! DEFINITION. The flags of the part and what reports them: the notice unit (posting, merging, loss and the choice of the
record to send) and the raised and clear states of the three watermark levels. -/

namespace Sys2Proof.Machine

/-! ## Notice kinds (R168, R193) -/

/-- The code of a notice's kind (R193). -/
def Notice.code : Notice → Nat
  | .poolFull => 1
  | .linkDown _ => 2
  | .noticesLost => 3
  | .queueFull _ => 4
  | .watermarkUp _ => 5
  | .headerErrors _ => 6
  | .flowClosed _ => 7
  | .linkUp _ => 8
  | .watermarkDown _ => 9
  | .contractPromoted _ => 10
  | .probeDone _ => 11

/-- Severities (R167). -/
inductive Severity where
  | urgent
  | normal
  | info
  deriving DecidableEq, Repr

/-- The severity fixed by a notice's kind (R168). -/
def Notice.severity : Notice → Severity
  | .poolFull => .urgent
  | .linkDown _ => .urgent
  | .noticesLost => .urgent
  | .queueFull _ => .normal
  | .watermarkUp _ => .normal
  | .headerErrors _ => .normal
  | .flowClosed _ => .normal
  | .linkUp _ => .normal
  | .watermarkDown _ => .info
  | .contractPromoted _ => .info
  | .probeDone _ => .info

/-- The severity of a record. -/
def NoticeRecord.severity (r : NoticeRecord) : Severity :=
  r.what.severity

/-! ## Posting (R170 to R173) -/

/-- The notice's kind is in the enable set (R173, R195). -/
def NoticeUnit.enables (u : NoticeUnit) (n : Notice) : Bool :=
  u.enabled.getLsbD (n.code - 1)

/-- A record of this kind and subject is queued. -/
def NoticeUnit.holds (u : NoticeUnit) (n : Notice) : Bool :=
  u.records.any fun r => r.what = n

/-- One more occurrence merged into the queued record of `n`: its count rises by 1 and stops at 255 (R170). -/
def NoticeUnit.merge (u : NoticeUnit) (n : Notice) : NoticeUnit :=
  { u with records := u.records.map fun r => if r.what = n then { r with count := min (r.count + 1) 255 } else r }

/-- A new record at the tail (R171). -/
def NoticeUnit.append (u : NoticeUnit) (n : Notice) (now : Stamp) (d : Detail) : NoticeUnit :=
  { u with records := u.records ++ [{ what := n, count := 1, stamp := now, detail := d }] }

/-- The loss of a posting, counted in NOTICES_LOST while that kind is enabled (R172). -/
def NoticeUnit.lose (u : NoticeUnit) (now : Stamp) : NoticeUnit :=
  if u.enables .noticesLost then
    if u.holds .noticesLost then u.merge .noticesLost else u.append .noticesLost now .none
  else u

/-- A posting: dropped when its kind is disabled, merged into a queued record of its kind and subject, appended while fewer than
31 records are queued, or lost (R170 to R173). -/
def NoticeUnit.post (u : NoticeUnit) (n : Notice) (now : Stamp) (d : Detail) : NoticeUnit :=
  if !u.enables n then u
  else if u.holds n then u.merge n
  else if u.records.length < Config.noticePlaces then u.append n now d
  else u.lose now

/-- A posting in the event under way, stamped with now. -/
def State.post (s : State) (n : Notice) (d : Detail) : State :=
  s.withNotices (s.notices.post n s.now d)

/-! ## Emission (R174) -/

/-- The record that a notice slot sends: the oldest of the most severe severity queued (R174). -/
def NoticeUnit.choice (u : NoticeUnit) : Option NoticeRecord :=
  (u.records.find? fun r => r.severity = .urgent) <|>
  (u.records.find? fun r => r.severity = .normal) <|>
  (u.records.find? fun r => r.severity = .info)

/-- The unit after record `r` has been sent: the record gone, one credit spent, the sequence number advanced (R174, R175). -/
def NoticeUnit.emit (u : NoticeUnit) (r : NoticeRecord) : NoticeUnit :=
  { u with records := u.records.erase r, credit := u.credit - 1, seq := u.seq + 1 }

/-! ## Watermark levels (R80 to R84) -/

/-- A raised level's action discards an arriving cell of a flow of priority `q`, marked or not (R81). -/
def WaterLevel.sheds (w : WaterLevel) (q : Priority) (de : Bool) : Bool :=
  w.raised &&
    match w.action with
    | .noticeOnly => false
    | .shedDe => de
    | .shedBelow c => c < q

/-- At least one raised level's action discards the cell (R73). -/
def CellBuffer.sheds (b : CellBuffer) (q : Priority) (de : Bool) : Bool :=
  b.level1.sheds q de || b.level2.sheds q de || b.level3.sheds q de

/-- After an enqueue: level `l` is raised when it is clear and O has come to its threshold, with WATERMARK_UP (R82). -/
def State.raiseLevel (s : State) (l : Level) : State :=
  if !(s.buffer.level l).raised && s.buffer.occupancy = (s.buffer.level l).threshold then
    (s.withBuffer (s.buffer.setRaised l true)).post (.watermarkUp l) .none
  else s

/-- The level test after an enqueue (R76 item 6). -/
def State.raiseLevels (s : State) : State :=
  ((s.raiseLevel .one).raiseLevel .two).raiseLevel .three

/-- After a return of slots: level `l` is cleared when it is raised and O < W − H, with WATERMARK_DOWN (R83). -/
def State.clearLevel (s : State) (l : Level) : State :=
  if (s.buffer.level l).raised && s.buffer.occupancy + s.buffer.hysteresis < (s.buffer.level l).threshold then
    (s.withBuffer (s.buffer.setRaised l false)).post (.watermarkDown l) .none
  else s

/-- The level test after a return of slots, from level 3 down to level 1 (R83). -/
def State.clearLevels (s : State) : State :=
  ((s.clearLevel .three).clearLevel .two).clearLevel .one

/-- The state that the re-evaluation of SET_WATERMARKS gives a level: raised when O ≥ W, without hysteresis (R84). -/
def CellBuffer.shouldRaise (b : CellBuffer) (l : Level) : Bool :=
  (b.level l).threshold ≤ b.occupancy

/-- Re-evaluation of level `l` where it rises: WATERMARK_UP (R84). -/
def State.reviseUp (s : State) (l : Level) : State :=
  if !(s.buffer.level l).raised && s.buffer.shouldRaise l then
    (s.withBuffer (s.buffer.setRaised l true)).post (.watermarkUp l) .none
  else s

/-- Re-evaluation of level `l` where it clears: WATERMARK_DOWN (R84). -/
def State.reviseDown (s : State) (l : Level) : State :=
  if (s.buffer.level l).raised && !s.buffer.shouldRaise l then
    (s.withBuffer (s.buffer.setRaised l false)).post (.watermarkDown l) .none
  else s

/-- The re-evaluation of every level: those that rise in ascending order, those that clear in descending order (R84). -/
def State.reviseLevels (s : State) : State :=
  (((((s.reviseUp .one).reviseUp .two).reviseUp .three).reviseDown .three).reviseDown .two).reviseDown .one

/-- The number of levels raised, counted from level 1: what READ_POOL and SET_WATERMARKS report (R193). -/
def CellBuffer.raisedCount (b : CellBuffer) : Nat :=
  b.level1.raised.toNat + b.level2.raised.toNat + b.level3.raised.toNat

end Sys2Proof.Machine
end

