-- ==== Sys2Proof/Machine/Cells.lean ====
section
/-! DEFINITION. Cells: bytes and words, the header and its CRC-8 check, the classification of a received cell, and the cells
that the transmitter builds (chapter 7 and R192, R193). -/

namespace Sys2Proof.Machine

/-! ## Bytes, most-significant byte first (R192) -/

/-- The two bytes of a 16-bit field. -/
def bytes2 (w : BitVec 16) : List Byte :=
  [w.extractLsb' 8 8, w.extractLsb' 0 8]

/-- The three bytes of a stamp. -/
def bytes3 (w : Stamp) : List Byte :=
  [w.extractLsb' 16 8, w.extractLsb' 8 8, w.extractLsb' 0 8]

/-- The four bytes of a 32-bit field. -/
def bytes4 (w : BitVec 32) : List Byte :=
  [w.extractLsb' 24 8, w.extractLsb' 16 8, w.extractLsb' 8 8, w.extractLsb' 0 8]

/-- A number as one byte. -/
def byteOf (n : Nat) : Byte :=
  BitVec.ofNat 8 n

/-- A number as a two-byte field. -/
def numBytes2 (n : Nat) : List Byte :=
  bytes2 (BitVec.ofNat 16 n)

/-- A payload from its first bytes; the bytes not given are 0 (R125, R196). -/
def payloadOf (l : List Byte) : Payload :=
  Vector.ofFn fun i => l.getD i.val 0

/-- Response data from its first bytes; the bytes not used are sent as 0 (R125, R196). -/
def dataOf (l : List Byte) : ReplyData :=
  Vector.ofFn fun i => l.getD i.val 0

/-! ## The header (R109, R192) and its check (R110) -/

/-- Cell kinds (R109). -/
inductive Kind where
  | idle
  | user
  | userDe
  | management
  deriving DecidableEq, Repr

/-- The code of a kind (R192). -/
def Kind.code : Kind → BitVec 2
  | .idle => 0
  | .user => 1
  | .userDe => 2
  | .management => 3

/-- The kind with a code: all four have a meaning (R192). -/
def kindOf (c : BitVec 2) : Kind :=
  if c = 0 then .idle else if c = 1 then .user else if c = 2 then .userDe else .management

/-- One step of the check: steps 2 to 4 of R110 for one incoming bit. -/
def crcStep (r : Byte) (bit : Bool) : Byte :=
  if (r.msb ^^ bit) then (r <<< 1) ^^^ 0x07 else r <<< 1

/-- The check of the first three header bytes, the first of them highest (R110). -/
def crc8 (top : BitVec 24) : Byte :=
  (List.range 24).foldl (fun r i => crcStep r (top.getMsbD i)) 0

/-- The first three header bytes of a cell. -/
def Cell.top (c : Cell) : BitVec 24 :=
  c.header.extractLsb' 8 24

/-- The fourth header byte, the check. -/
def Cell.check (c : Cell) : Byte :=
  c.header.extractLsb' 0 8

/-- The header passes its check (R112). -/
def Cell.good (c : Cell) : Bool :=
  crc8 c.top = c.check

/-- The channel of a cell (R192). -/
def Cell.channel (c : Cell) : Channel :=
  c.header.extractLsb' 22 10

/-- The kind of a cell (R192). -/
def Cell.kind (c : Cell) : Kind :=
  kindOf (c.header.extractLsb' 20 2)

/-- The carry of a cell (R192). -/
def Cell.carry (c : Cell) : BitVec 4 :=
  c.header.extractLsb' 16 4

/-- The label of a cell (R192). -/
def Cell.label (c : Cell) : Byte :=
  c.header.extractLsb' 8 8

/-- A cell as the transmitter builds it, with its check computed (R116). -/
def buildCell (channel : Channel) (kind : Kind) (carry : BitVec 4) (label : Byte) (payload : Payload) : Cell :=
  let top : BitVec 24 := channel ++ kind.code ++ carry ++ label
  { header := top ++ crc8 top, payload := payload }

/-- The cell with these 32 bytes. -/
def Cell.ofBytes (l : List Byte) : Cell :=
  { header := l.getD 0 0 ++ l.getD 1 0 ++ l.getD 2 0 ++ l.getD 3 0, payload := payloadOf (l.drop 4) }

/-- The 32 bytes of a cell, in the order they travel. -/
def Cell.bytes (c : Cell) : List Byte :=
  bytes4 c.header ++ c.payload.toList

/-! ## Classification of a received cell with a good header (R113) -/

/-- The outcomes of the classifier. -/
inductive CellClass where
  | idle
  | misdirected
  /-- To the Request Queue. -/
  | request
  /-- A user cell on a channel 0..1022, with its DE mark. -/
  | user (channel : UserChannel) (de : Bool)
  deriving DecidableEq, Repr

/-- The class of a user cell by its channel (R113). -/
def userClass (c : Cell) (de : Bool) : CellClass :=
  if h : c.channel.toNat < 1023 then .user ⟨c.channel.toNat, h⟩ de else .misdirected

/-- The class of a cell received at port `p` (R113). -/
def classify (p : Port) (c : Cell) : CellClass :=
  match c.kind with
  | .idle => .idle
  | .management => if p = .T ∧ c.channel.toNat = 1023 then .request else .misdirected
  | .user => userClass c false
  | .userDe => userClass c true

/-! ## Code values (R193) and the payloads of responses and notices -/

/-- Port code. -/
def portCode : Port → Nat
  | .T => 0
  | .F => 1

/-- Link state code. -/
def Link.code : Link → Nat
  | .down => 0
  | .up => 1

/-- Mode code. -/
def Mode.code : Mode → Nat
  | .pass => 0
  | .policeTag => 1
  | .policeDrop => 2
  | .pace => 3

/-- Lifecycle state code. -/
def Lifecycle.code : Lifecycle → Nat
  | .unused => 0
  | .opened => 1
  | .suspended => 2
  | .draining => 3

/-- Scheduling state code. -/
def Sched.code : Sched → Nat
  | .empty => 0
  | .ready => 1
  | .waiting => 2
  | .held => 3

/-- Bank identity code. -/
def BankId.code : BankId → Nat
  | .A => 0
  | .B => 1

/-- Probe state code. -/
def ProbeState.code : ProbeState → Nat
  | .idle => 0
  | .armed => 1
  | .done => 2
  | .aborted => 3

/-- Verdict code. -/
def Verdict.code : Verdict → Nat
  | .conforming => 0
  | .nonconforming => 1
  | .unjudged => 2

/-- Outcome code. -/
def Admission.code : Admission → Nat
  | .queued => 0
  | .discardedPolice => 1
  | .discardedShed => 2
  | .discardedQueue => 3
  | .discardedPool => 4

/-- Status code. -/
def Status.code : Status → Nat
  | .ok => 0
  | .accepted => 1
  | .badRequest => 2
  | .badIndex => 3
  | .badValue => 4
  | .state => 5
  | .mapped => 6
  | .busy => 7
  | .sequence => 8
  | .mapInvalid => 9

/-- Severity code. -/
def Severity.code : Severity → Nat
  | .urgent => 0
  | .normal => 1
  | .info => 2

/-- Detail code. -/
def Detail.code : Detail → Nat
  | .none => 0
  | .drained => 1
  | .flushed => 2
  | .complete => 3
  | .aborted => 4

/-- Level number, 1..3. -/
def Level.number : Level → Nat
  | .one => 1
  | .two => 2
  | .three => 3

/-- The subject byte of a notice: a flow number, a port code or a level, and 0 for a kind with no subject (R193). -/
def Notice.subjectCode : Notice → Nat
  | .poolFull => 0
  | .linkDown p => portCode p
  | .noticesLost => 0
  | .queueFull f => f.val
  | .watermarkUp l => l.number
  | .headerErrors p => portCode p
  | .flowClosed f => f.val
  | .linkUp p => portCode p
  | .watermarkDown l => l.number
  | .contractPromoted f => f.val
  | .probeDone f => f.val

/-- The NOTICE code (R193). -/
def noticeCode : Byte := 0x80

/-- The payload of a response (R193). -/
def Response.payload (r : Response) : Payload :=
  payloadOf (r.tag :: r.code :: byteOf r.status.code :: r.data.toList)

/-- The payload of a notice that carries sequence number `seq` (R175, R193). -/
def NoticeRecord.payload (r : NoticeRecord) (seq : Byte) : Payload :=
  payloadOf ([seq, noticeCode, byteOf r.what.code, byteOf r.severity.code, byteOf r.what.subjectCode, byteOf r.count]
    ++ bytes3 r.stamp ++ [byteOf r.detail.code])

/-- The cell of a response or a notice (R116). -/
def managementCell (payload : Payload) : Cell :=
  buildCell 1023 .management 0 0 payload

/-- The cell of a user cell of a flow (R116). -/
def userCell (channel : UserChannel) (c : StoredCell) : Cell :=
  buildCell (BitVec.ofNat 10 channel.val) (if c.de then .userDe else .user) c.carry c.label c.payload

/-- The IDLE cell (R96, R116). -/
def idleCell : Cell :=
  buildCell 0 .idle 0 0 (Vector.replicate 28 0)

end Sys2Proof.Machine
end

