-- ==== Sys2Proof/Machine/Conformance.lean ====
section
/-! DEFINITION. The Conformance Unit (chapter 1): the increment, the due-time update, the judgement at arrival, and the
promotion of a pending contract. It holds no state of its own. -/

namespace Sys2Proof.Machine

/-- The increment at cycle position `k`: P + 1 ticks when k < E, and P ticks when k ≥ E (R3). -/
def Contract.increment (c : Contract) (k : Nat) : Nat :=
  if k < c.extension then c.period.toNat + 1 else c.period.toNat

/-- The cycle position after `k`: (k + 1) mod C (R3). -/
def Contract.nextPos (c : Contract) (k : Nat) : Nat :=
  (k + 1) % c.cycle

/-- The due-time update at time `t`: D becomes max(D, t) + increment(k), k becomes (k + 1) mod C (R3). -/
def FlowRecord.dueUpdate (r : FlowRecord) (t : Stamp) : FlowRecord :=
  { r with due := maxStamp r.due t + BitVec.ofNat 24 (r.active.increment r.cyclePos),
           cyclePos := r.active.nextPos r.cyclePos }

/-- A promotion as it changes the record: the pending contract becomes active and absent, k becomes 0, D is kept (R16 items 1
to 4). -/
def FlowRecord.promote (r : FlowRecord) : FlowRecord :=
  match r.pending with
  | none => r
  | some c => { r with active := c, pending := none, cyclePos := 0 }

/-- A due-time update now would bring k back to 0 with a contract pending (R18). -/
def FlowRecord.atBoundary (r : FlowRecord) : Bool :=
  r.active.nextPos r.cyclePos = 0 && r.pending.isSome

/-- The due-time update of flow `f` at time `t`, with the promotion and CONTRACT_PROMOTED of a cycle boundary (R3, R18). The
scheduling state is set by the event that makes the update (R17, R77, R98). -/
def State.dueUpdate (s : State) (f : FlowNo) (t : Stamp) : State :=
  let r := s.flow f
  if r.atBoundary then (s.setFlow f (r.dueUpdate t).promote).post (.contractPromoted f) .none
  else s.setFlow f (r.dueUpdate t)

/-- The pending contract of flow `f` is promoted and the flow rescheduled by R17, with no notice: the promotion of
SET_CONTRACT and COMMIT_CONTRACT (R14, R19). -/
def State.promoteNow (s : State) (f : FlowNo) : State :=
  (s.setFlow f (s.flow f).promote).reschedule f

/-- The active mode is one of the two POLICE modes. -/
def Mode.polices : Mode → Bool
  | .pass => false
  | .policeTag => true
  | .policeDrop => true
  | .pace => false

/-- The judgement of an arrival at time `t`: under the POLICE modes it conforms when `t` is not before D − T (R4, R5). -/
def FlowRecord.judge (r : FlowRecord) (t : Stamp) : Verdict :=
  if r.active.mode.polices then
    if notBefore t r.eligibleTime then .conforming else .nonconforming
  else .unjudged

/-- POLICE_TAG gives this cell its DE mark: it is nonconforming and did not arrive marked (R6). -/
def FlowRecord.tags (r : FlowRecord) (t : Stamp) (de : Bool) : Bool :=
  r.active.mode = .policeTag && r.judge t = .nonconforming && !de

end Sys2Proof.Machine
end

