-- ==== Sys2Proof/Machine/Arrival.lean ====
section
/-! DEFINITION. ARRIVAL and PROBE_COMPLETION: the header check, the classification, the Request Queue, the lookup, admission and
the Arrival Probe's capture, all one event (R111, R71). -/

namespace Sys2Proof.Machine

/-! ## Admission (R71 to R77) -/

/-- The cell as it is stored: its DE mark is the one it arrived with or the one POLICE_TAG gives it (R10, R72). -/
def FlowRecord.marked (r : FlowRecord) (t : Stamp) (c : StoredCell) : StoredCell :=
  { c with de := c.de || r.tags t c.de }

/-- How the admission of cell `c` to flow `f` ends: the first of the steps 1 to 4 that discards it, or the enqueue (R71). -/
def State.admission (s : State) (f : FlowNo) (c : StoredCell) : Admission :=
  let r := s.flow f
  if r.active.mode = .policeDrop && r.judge s.now = .nonconforming then .discardedPolice
  else if s.buffer.sheds r.priority (r.marked s.now c).de then .discardedShed
  else if r.queueLimit ≤ r.queue.length then .discardedQueue
  else if s.buffer.occupancy = Config.cellSlots then .discardedPool
  else .queued

/-- Items 1 and 2 of R76: the cell takes slot `slot` of the free list, which joins the tail of the flow's queue. -/
def State.storeCell (s : State) (f : FlowNo) (slot : SlotNo) (rest : List SlotNo) (c : StoredCell) : State :=
  (s.withBuffer (s.buffer.store slot rest c)).setFlow f { s.flow f with queue := (s.flow f).queue ++ [slot] }

/-- Item 3 of R76: Accepted, and Tagged when step 1 gave the cell its mark. -/
def FlowCounters.addEnqueued (tagged : Bool) (c : FlowCounters) : FlowCounters :=
  if tagged then c.addAccepted.addTagged else c.addAccepted

/-- Items 4 and 5 of R76 for a flow whose record before the cell joined it was `r`: the due-time update of a CONFORMING cell,
and the scheduling state by R77, which is a placement when the queue was empty, and the table of R17 when the queue was not empty
and a contract was promoted. -/
def State.settle (s : State) (f : FlowNo) (r : FlowRecord) : State :=
  let conforming := decide (r.judge s.now = .conforming)
  let u := if conforming then s.dueUpdate f s.now else s
  if r.queue = [] then u.place f
  else if conforming && r.atBoundary then u.reschedule f
  else u

/-- Step 5: the enqueue (R76). With no free slot there is nothing to do: `State.admission` answers POOL then. -/
def State.enqueue (s : State) (f : FlowNo) (c : StoredCell) : State :=
  match s.buffer.freeList with
  | [] => s
  | slot :: rest =>
    let r := s.flow f
    (((s.storeCell f slot rest (r.marked s.now c)).countFlow f (FlowCounters.addEnqueued (r.tags s.now c.de))).settle f
      r).raiseLevels

/-- The effect of the step that ends admission (R72 to R76). -/
def State.admitCell (s : State) (f : FlowNo) (c : StoredCell) : State :=
  match s.admission f c with
  | .discardedPolice => s.countFlow f FlowCounters.addPoliced
  | .discardedShed => s.countFlow f FlowCounters.addDropped
  | .discardedQueue => (s.countFlow f FlowCounters.addDropped).post (.queueFull f) .none
  | .discardedPool => (s.countFlow f FlowCounters.addDropped).post .poolFull .none
  | .queued => s.enqueue f c

/-! ## The Arrival Probe's capture (R187) -/

/-- The probe is ARMED on flow `f`. -/
def Probe.watches (p : Probe) (f : FlowNo) : Bool :=
  p.state = .armed && p.flow = f

/-- The interval since the last stamp, saturating at 65535 (R187 item 1). -/
def Probe.interval (p : Probe) (t : Stamp) : BitVec 16 :=
  BitVec.ofNat 16 (min (t - p.lastStamp).toNat 65535)

/-- The capture at time `t` completes the probe: the list comes to the target count (R187 item 3). -/
def Probe.completes (p : Probe) : Bool :=
  p.target ≤ p.entries.length + 1

/-- The record after a capture (R187 items 1 to 3). -/
def Probe.capture (p : Probe) (t : Stamp) (v : Verdict) (o : Admission) : Probe :=
  { p with
    entries := p.entries ++ [{ interval := p.interval t, verdict := v, outcome := o }]
    lastStamp := t
    state := if p.completes then .done else p.state }

/-- The capture of an arrival to flow `f`, after admission has ended, with PROBE_DONE (COMPLETE) when it reaches the target
count (R187). -/
def State.capture (s : State) (f : FlowNo) (v : Verdict) (o : Admission) : State :=
  if s.probe.watches f then
    let u := s.withProbe (s.probe.capture s.now v o)
    if s.probe.completes then u.post (.probeDone f) .complete else u
  else s

/-! ## The arrival event -/

/-- A user cell handed to flow `f`: admission, then the capture (R54, R71, R187). -/
def State.deliver (s : State) (f : FlowNo) (c : StoredCell) : State :=
  (s.admitCell f c).capture f ((s.flow f).judge s.now) (s.admission f c)

/-- The Active entry for a port and a channel (R54). -/
def State.lookup (s : State) (p : Port) (ch : UserChannel) : Option FlowNo :=
  s.map.activeBank.entry p ch

/-- A management cell for the Request Queue: appended below 4 requests, otherwise discarded and counted (R114, R127). -/
def State.offerRequest (s : State) (request : Payload) : State :=
  if s.mgmt.requests.length < Config.requestDepth then
    s.withMgmt { s.mgmt with requests := s.mgmt.requests ++ [request] }
  else s.countPort .T PortCounters.addRequestsDropped

/-- What a cell hands to admission: its DE mark, carry, label and payload (R54). -/
def Cell.stored (c : Cell) (de : Bool) : StoredCell :=
  { de := de, carry := c.carry, label := c.label, payload := c.payload }

/-- A cell received in full at an UP port (R111 to R115). -/
def State.receive (s : State) (p : Port) (c : Cell) : State :=
  if c.good then
    let u := s.countPort p PortCounters.addReceived
    match classify p c with
    | .idle => s
    | .misdirected => u.countPort p PortCounters.addMisdirected
    | .request => u.offerRequest c.payload
    | .user ch de =>
      match s.lookup p ch with
      | none => u.countPort p PortCounters.addUnmapped
      | some f => u.deliver f (c.stored de)
  else (s.countPort p PortCounters.addHeaderErrors).post (.headerErrors p) .none

/-- These bytes are an arrival at port `p`: a whole cell, at a port that is UP (R111). -/
def State.isArrival (s : State) (p : Port) (cell : List Byte) : Bool :=
  wellFormedCell cell && (s.port p).link = .up

/-- The arrival event; at a DOWN port, or with bytes that are no whole cell, there is none (R111). -/
def State.arrive (s : State) (p : Port) (cell : List Byte) : State :=
  if s.isArrival p cell then s.receive p (Cell.ofBytes cell) else s

/-- The flow and the cell that the arrival hands to admission, if it hands any (R54, R113). -/
def State.arrivalTo (s : State) (p : Port) (cell : List Byte) : Option (FlowNo × StoredCell) :=
  let c := Cell.ofBytes cell
  if s.isArrival p cell && c.good then
    match classify p c with
    | .idle => none
    | .misdirected => none
    | .request => none
    | .user ch de => (s.lookup p ch).map fun f => (f, c.stored de)
  else none

/-- The arrival is captured and brings the probe to its target count (R187). -/
def State.arrivalCompletesProbe (s : State) (p : Port) (cell : List Byte) : Bool :=
  match s.arrivalTo p cell with
  | none => false
  | some (f, _) => s.probe.watches f && s.probe.completes

/-- The arrival makes a due-time update that brings k back to 0 with a contract pending (R7, R18). -/
def State.arrivalPromotes (s : State) (p : Port) (cell : List Byte) : Bool :=
  match s.arrivalTo p cell with
  | none => false
  | some (f, c) => s.admission f c = .queued && (s.flow f).judge s.now = .conforming && (s.flow f).atBoundary

/-- ARRIVAL (R111). -/
def execArrival (p : Port) (cell : List Byte) (s : State) : Host.Outcome State Fault Refusal :=
  .next (s.arrive p cell)

/-- PROBE_COMPLETION (R187): the arrival whose capture reaches the target count; where the arrival would not, the event does
not take place (log entry 5). -/
def execProbeCompletion (p : Port) (cell : List Byte) (s : State) : Host.Outcome State Fault Refusal :=
  .next (if s.arrivalCompletesProbe p cell then s.arrive p cell else s)

end Sys2Proof.Machine
end

