-- ==== Sys2Proof/Machine/Egress.lean ====
section
/-! DEFINITION. EGRESS_SLOT, DRAIN_COMPLETION and CYCLE_BOUNDARY_PROMOTION: what an egress slot carries (R93 to R96), and the
departure of a user cell (R97, R98). -/

namespace Sys2Proof.Machine

/-- What a slot carries (R93). -/
inductive SlotChoice where
  /-- The head of the Response Queue, and the responses behind it (R94). -/
  | response (r : Response) (rest : List Response)
  /-- A notice record (R95). -/
  | notice (r : NoticeRecord)
  /-- The head flow of the ready list of priority `q` (R97). -/
  | departure (q : Priority) (f : FlowNo)
  /-- An IDLE cell (R96). -/
  | idle
  deriving DecidableEq, Repr

/-- The head flow of the lowest-numbered non-empty ready list of port `p` (R93, R100). -/
def State.readyHead (s : State) (p : Port) : Option (Priority × FlowNo) :=
  (List.finRange 8).findSome? fun q => (s.readyList p q).head?.map fun f => (q, f)

/-- The choice among the ready lists: a flow, or IDLE. -/
def State.flowChoice (s : State) (p : Port) : SlotChoice :=
  match s.readyHead p with
  | some (q, f) => .departure q f
  | none => .idle

/-- The choice on Port T after the Response Queue: a notice against credit, then a flow (R95). -/
def State.noticeChoice (s : State) : SlotChoice :=
  match s.notices.choice with
  | some r => if 0 < s.notices.credit then .notice r else s.flowChoice .T
  | none => s.flowChoice .T

/-- The arbiter's choice for a slot of port `p`, on the state as it stands when the slot opens (R93). -/
def State.slotChoice (s : State) (p : Port) : SlotChoice :=
  match p with
  | .F => s.flowChoice .F
  | .T =>
    match s.mgmt.responses with
    | r :: rest => .response r rest
    | [] => s.noticeChoice

/-- The transmitter of port `p` holds this cell (R117). -/
def State.transmit (s : State) (p : Port) (c : Cell) : State :=
  s.setPort p { s.port p with tx := some c }

/-- Items 1 to 3 of R97 for the head flow `f` of the ready list of `p` for `q`, whose head cell is in `slot`: out of the ready
list, out of the queue, the slot back on the free list and the levels tested. -/
def State.takeHead (s : State) (p : Port) (q : Priority) (f : FlowNo) (slot : SlotNo) (rest : List SlotNo) : State :=
  (((s.setReadyList p q (s.readyList p q).tail).setFlow f { s.flow f with queue := rest }).withBuffer
    (s.buffer.giveBack [slot])).clearLevels

/-- Item 5 of R97: the contract arithmetic of a departure, under the active mode (R12). -/
def State.departureArithmetic (s : State) (f : FlowNo) : State :=
  if (s.flow f).active.mode = .pace then s.dueUpdate f s.now else s

/-- The end of a drain: EMPTY, then UNUSED, with FLOW_CLOSED (DRAINED) (R35). -/
def State.finishDrain (s : State) (f : FlowNo) : State :=
  (s.setFlow f { s.flow f with sched := .empty, lifecycle := .unused }).post (.flowClosed f) .drained

/-- Item 6 of R97: the rescheduling of R98. -/
def State.afterDeparture (s : State) (f : FlowNo) : State :=
  if (s.flow f).queue = [] ∧ (s.flow f).lifecycle = .draining then s.finishDrain f else s.place f

/-- The departure of the head cell of flow `f`, the head of the ready list of `p` for `q` (R97). A flow in a ready list always
has a cell to send (R92); were there none, the flow would leave the list and the slot would carry IDLE (log entry 13). -/
def State.depart (s : State) (p : Port) (q : Priority) (f : FlowNo) : State :=
  match (s.flow f).queue with
  | [] => (s.setReadyList p q (s.readyList p q).tail).transmit p idleCell
  | slot :: rest =>
    (((((s.transmit p (userCell (s.flow f).egressChannel (s.buffer.slots.get slot))).takeHead p q f slot rest).countFlow f
      FlowCounters.addSent).countPort p PortCounters.addSent).departureArithmetic f).afterDeparture f

/-- The response at the head of the Response Queue leaves (R94, R129). -/
def State.sendResponse (s : State) (r : Response) (rest : List Response) : State :=
  ((s.withMgmt { s.mgmt with responses := rest }).transmit .T (managementCell r.payload)).countPort .T PortCounters.addSent

/-- A notice leaves (R95, R174, R175). -/
def State.sendNotice (s : State) (r : NoticeRecord) : State :=
  ((s.withNotices (s.notices.emit r)).transmit .T (managementCell (r.payload s.notices.seq))).countPort .T
    PortCounters.addSent

/-- The opening of a slot of an UP port (R93). -/
def State.openSlot (s : State) (p : Port) : State :=
  match s.slotChoice p with
  | .response r rest => s.sendResponse r rest
  | .notice r => s.sendNotice r
  | .departure q f => s.depart p q f
  | .idle => s.transmit p idleCell

/-- The slot event; a DOWN port offers no slot (R93, R101). -/
def State.egress (s : State) (p : Port) : State :=
  if (s.port p).link = .up then s.openSlot p else s

/-- The flow that a slot of port `p` would send a cell of (R97). -/
def State.departing (s : State) (p : Port) : Option FlowNo :=
  if (s.port p).link = .up then
    match s.slotChoice p with
    | .response _ _ => none
    | .notice _ => none
    | .departure _ f => some f
    | .idle => none
  else none

/-- The departure empties a DRAINING flow's queue (R35). -/
def State.slotDrains (s : State) (p : Port) : Bool :=
  match s.departing p with
  | none => false
  | some f => (s.flow f).lifecycle = .draining && (s.flow f).queue.length = 1

/-- The departure makes a due-time update that brings k back to 0 with a contract pending (R12, R18). -/
def State.slotPromotes (s : State) (p : Port) : Bool :=
  match s.departing p with
  | none => false
  | some f => (s.flow f).queue ≠ [] && (s.flow f).active.mode = .pace && (s.flow f).atBoundary

/-- The event makes a cycle-boundary promotion (R18). -/
def State.promotesAt (s : State) : UpdateEvent → Bool
  | .arrival p cell => s.arrivalPromotes p cell
  | .slot p => s.slotPromotes p

/-- The event in which a due-time update is made. -/
def State.updateEvent (s : State) : UpdateEvent → State
  | .arrival p cell => s.arrive p cell
  | .slot p => s.egress p

/-- EGRESS_SLOT (R93). -/
def execEgressSlot (p : Port) (s : State) : Host.Outcome State Fault Refusal :=
  .next (s.egress p)

/-- DRAIN_COMPLETION (R35): the slot whose departure empties a DRAINING flow's queue; where it would not, the event does not
take place (log entry 5). -/
def execDrainCompletion (p : Port) (s : State) : Host.Outcome State Fault Refusal :=
  .next (if s.slotDrains p then s.egress p else s)

/-- CYCLE_BOUNDARY_PROMOTION (R18): the event whose due-time update brings k back to 0 with a contract pending; where it would
not, the event does not take place (log entry 5). -/
def execCycleBoundaryPromotion (e : UpdateEvent) (s : State) : Host.Outcome State Fault Refusal :=
  .next (if s.promotesAt e then s.updateEvent e else s)

end Sys2Proof.Machine
end

