-- ==== Sys2Proof/Machine/Operands.lean ====
section
/-! DEFINITION. The operands of a request: its tag, code and parameter bytes (R193), the fields and code values that the
requests read from them (R192, R194, R195, R196), and the checks on them (R141, R2). -/

namespace Sys2Proof.Machine

/-! ## The bytes of a request (R193) -/

/-- Payload byte `n` of a waiting request. -/
def requestByte (r : Payload) (n : Nat) : Byte :=
  r.toList.getD n 0

/-- The tag (R124). -/
def requestTag (r : Payload) : Byte :=
  requestByte r 0

/-- The request code (R124). -/
def requestCode (r : Payload) : Byte :=
  requestByte r 1

/-- Parameter byte `n`: payload byte 2 + n (R193). -/
def param (r : Payload) (n : Nat) : Byte :=
  requestByte r (2 + n)

/-- The two-byte field at parameter bytes `n` and `n + 1` (R192). -/
def param2 (r : Payload) (n : Nat) : BitVec 16 :=
  param r n ++ param r (n + 1)

/-! ## Request codes (R193) -/

/-- SYNC. -/
def codeSync : Byte := 0x01
/-- READ_TIME. -/
def codeReadTime : Byte := 0x02
/-- SET_TIMEBASE. -/
def codeSetTimebase : Byte := 0x03
/-- OPEN_FLOW. -/
def codeOpenFlow : Byte := 0x04
/-- SET_CONTRACT. -/
def codeSetContract : Byte := 0x05
/-- COMMIT_CONTRACT. -/
def codeCommitContract : Byte := 0x06
/-- SUSPEND_FLOW. -/
def codeSuspendFlow : Byte := 0x07
/-- RESUME_FLOW. -/
def codeResumeFlow : Byte := 0x08
/-- CLOSE_FLOW. -/
def codeCloseFlow : Byte := 0x09
/-- READ_FLOW. -/
def codeReadFlow : Byte := 0x0A
/-- PREPARE_MAP. -/
def codePrepareMap : Byte := 0x0B
/-- WRITE_MAP. -/
def codeWriteMap : Byte := 0x0C
/-- READ_MAP. -/
def codeReadMap : Byte := 0x0D
/-- SWAP_MAP. -/
def codeSwapMap : Byte := 0x0E
/-- SET_WATERMARKS. -/
def codeSetWatermarks : Byte := 0x0F
/-- READ_POOL. -/
def codeReadPool : Byte := 0x10
/-- READ_COUNTERS. -/
def codeReadCounters : Byte := 0x11
/-- START_PROBE. -/
def codeStartProbe : Byte := 0x12
/-- READ_PROBE. -/
def codeReadProbe : Byte := 0x13
/-- GRANT_NOTICES. -/
def codeGrantNotices : Byte := 0x14
/-- SET_NOTICE_ENABLE. -/
def codeSetNoticeEnable : Byte := 0x15
/-- SOFT_RESET. -/
def codeSoftReset : Byte := 0x16

/-- A code that names one of the 22 requests (R196). -/
def knownCode (c : Byte) : Bool :=
  0x01 ≤ c && c ≤ 0x16

/-! ## Numbers (R141, R196) -/

/-- A flow number in a two-byte parameter, 0..255. -/
def flowOf (w : BitVec 16) : Option FlowNo :=
  if h : w.toNat < 256 then some ⟨w.toNat, h⟩ else none

/-- A channel, or the first channel of a run, 0..1022. -/
def channelOf (w : BitVec 16) : Option UserChannel :=
  if h : w.toNat < 1023 then some ⟨w.toNat, h⟩ else none

/-- A priority or a SHED_BELOW class, 0..7. -/
def priorityOf (b : Byte) : Option Priority :=
  if h : b.toNat < 8 then some ⟨b.toNat, h⟩ else none

/-- A number within a range. -/
def within (lo hi n : Nat) : Option Nat :=
  if lo ≤ n ∧ n ≤ hi then some n else none

/-! ## Options and enumerations (R193, R196): any code above the highest listed names nothing -/

/-- Port. -/
def portOf (b : Byte) : Option Port :=
  if b = 0 then some .T else if b = 1 then some .F else none

/-- Mode. -/
def modeOf (b : Byte) : Option Mode :=
  if b = 0 then some .pass else if b = 1 then some .policeTag else if b = 2 then some .policeDrop
  else if b = 3 then some .pace else none

/-- A two-way option: code 0 is `false`, code 1 is `true` (RESUME_FLOW, CLOSE_FLOW, PREPARE_MAP, READ_MAP bank,
READ_COUNTERS target and clear). -/
def optionOf (b : Byte) : Option Bool :=
  if b = 0 then some false else if b = 1 then some true else none

/-- READ_FLOW views. -/
inductive FlowView where
  | status
  | pending
  | counters
  deriving DecidableEq, Repr

/-- READ_FLOW view. -/
def viewOf (b : Byte) : Option FlowView :=
  if b = 0 then some .status else if b = 1 then some .pending else if b = 2 then some .counters else none

/-- A watermark action with its class byte, which is read beside SHED_BELOW alone (R157, R196). -/
def actionOf (b c : Byte) : Option ShedAction :=
  if b = 0 then some .noticeOnly
  else if b = 1 then some .shedDe
  else if b = 2 then (priorityOf c).map .shedBelow
  else none

/-- A map value of WRITE_MAP: a flow, or NONE (R195). -/
def mapValueOf (w : BitVec 16) : Option (Option FlowNo) :=
  if w = 0xFFFF then some none else (flowOf w).map some

/-- The first `n` map values of a WRITE_MAP, if each is a flow number or NONE (R154, R195). -/
def mapValues (r : Payload) : Nat → Option (List (Option FlowNo))
  | 0 => some []
  | n + 1 =>
    match mapValues r n, mapValueOf (param2 r (4 + 2 * n)) with
    | some l, some v => some (l ++ [v])
    | _, _ => none

/-! ## Contracts (R2) -/

/-- A contract in range: 2 ≤ P, 1 ≤ C ≤ 16, E < C (R1, R2). P ≤ 65535 and T are in range by their width. -/
def Contract.legal (c : Contract) : Bool :=
  2 ≤ c.period.toNat && 1 ≤ c.cycle && c.cycle ≤ 16 && c.extension < c.cycle

/-- The contract at parameter bytes `n` to `n + 6`, if it passes the validation of R2: mode (1), P (2), C (1), E (1), T (2)
(R193). -/
def contractOf (r : Payload) (n : Nat) : Option Contract :=
  match modeOf (param r n) with
  | none => none
  | some m =>
    let c : Contract :=
      { mode := m, period := param2 r (n + 1), cycle := (param r (n + 3)).toNat, extension := (param r (n + 4)).toNat,
        tolerance := param2 r (n + 5) }
    if c.legal then some c else none

/-- The seven bytes of a contract (R193). -/
def Contract.bytes (c : Contract) : List Byte :=
  byteOf c.mode.code :: bytes2 c.period ++ [byteOf c.cycle, byteOf c.extension] ++ bytes2 c.tolerance

/-! ## Counters in response data (R159, R194) -/

/-- A flow's six counters, in the order of R159. -/
def FlowCounters.bytes (c : FlowCounters) : List Byte :=
  bytes4 c.accepted ++ bytes4 c.tagged ++ bytes4 c.policed ++ bytes4 c.dropped ++ bytes4 c.sent ++ bytes4 c.flushed

/-- A port's six counters, in the order of R159. -/
def PortCounters.bytes (c : PortCounters) : List Byte :=
  bytes4 c.received ++ bytes4 c.headerErrors ++ bytes4 c.unmapped ++ bytes4 c.misdirected ++ bytes4 c.requestsDropped
    ++ bytes4 c.sent

/-! ## Map entries in READ_MAP (R195) -/

/-- The NONE mask: bit i is 1 when entry i is NONE. -/
def noneMask : List (Option FlowNo) → Nat
  | [] => 0
  | none :: l => 1 + 2 * noneMask l
  | some _ :: l => 2 * noneMask l

/-- The entry bytes: the flow number, or 0 beside a mask bit of 1. -/
def entryBytes (l : List (Option FlowNo)) : List Byte :=
  l.map fun e => match e with
    | some f => byteOf f.val
    | none => 0

/-! ## The probe record in READ_PROBE (R195) -/

/-- The 4-bit code of an entry: verdict × 5 + outcome. -/
def ProbeEntry.code (e : ProbeEntry) : Nat :=
  e.verdict.code * 5 + e.outcome.code

/-- The interval bytes of the first `n` entry places; a place not held is 0. -/
def intervalBytes : Nat → List ProbeEntry → List Byte
  | 0, _ => []
  | n + 1, [] => 0 :: 0 :: intervalBytes n []
  | n + 1, e :: l => bytes2 e.interval ++ intervalBytes n l

/-- The code bytes, two entries to a byte, the even entry in the high half; a place not held is 0. -/
def codeBytes : Nat → List ProbeEntry → List Byte
  | 0, _ => []
  | n + 1, [] => 0 :: codeBytes n []
  | n + 1, [e] => byteOf (e.code * 16) :: codeBytes n []
  | n + 1, e :: e' :: l => byteOf (e.code * 16 + e'.code) :: codeBytes n l

/-- The probe record as READ_PROBE returns it (R161, R195). -/
def Probe.bytes (p : Probe) : List Byte :=
  [byteOf p.state.code, byteOf p.flow.val, byteOf p.target, byteOf p.entries.length]
    ++ intervalBytes 8 p.entries ++ codeBytes 4 p.entries

end Sys2Proof.Machine
end

