-- ==== Sys2Proof/Machine/Taking.lean ====
section
/-! DEFINITION. The Management Engine's taking of a request: one operation that every request row shares (R128 to R135). -/

namespace Sys2Proof.Machine

/-- What the execution of a request gives: the state with the request's effect made, the status, and the first data bytes of the
response. -/
structure Reply where
  state : State
  status : Status
  data : List Byte

/-- A refusal by a check: nothing is changed and the response carries no data (R125, R132). -/
def refuse (s : State) (st : Status) : Reply :=
  { state := s, status := st, data := [] }

/-- A request that is done: status OK. -/
def okReply (s : State) (data : List Byte) : Reply :=
  { state := s, status := .ok, data := data }

/-- A request that is started and completes later: status ACCEPTED (R138). -/
def acceptReply (s : State) (data : List Byte) : Reply :=
  { state := s, status := .accepted, data := data }

/-- A check that reads a parameter: it fails with status `st`, or its value goes on to the next check (R132, R141). -/
def checked {α : Type} (o : Option α) (st : Status) (s : State) (k : α → Reply) : Reply :=
  match o with
  | none => refuse s st
  | some a => k a

/-- A check of a condition, failing with status `st` (R132). -/
def require (c : Bool) (st : Status) (s : State) (k : Reply) : Reply :=
  if c then k else refuse s st

/-- The first check that most requests make: the flow number at parameter bytes `n`, `n + 1` (R141). -/
def withFlow (r : Payload) (n : Nat) (s : State) (k : FlowNo → Reply) : Reply :=
  checked (flowOf (param2 r n)) .badIndex s k

/-- The response that answers request `r` (R125). -/
def responseTo (r : Payload) (st : Status) (data : List Byte) : Response :=
  { tag := requestTag r, code := requestCode r, status := st, data := dataOf data }

/-- The cases of the sequencing table (R131). -/
inductive Sequencing where
  | execute
  | replay (c : Response)
  | outOfSequence
  deriving DecidableEq, Repr

/-- The first matching case of the table of R131 for request `r`. -/
def Management.sequence (m : Management) (r : Payload) : Sequencing :=
  if requestCode r = codeSync then .execute
  else if requestTag r = m.expected then .execute
  else if requestTag r = m.expected - 1 then
    match m.cache with
    | some c => .replay c
    | none => .outOfSequence
  else .outOfSequence

/-- A response joins the tail of the Response Queue (R128). -/
def State.respond (s : State) (x : Response) : State :=
  s.withMgmt { s.mgmt with responses := s.mgmt.responses ++ [x] }

/-- The response of an executed request: appended, copied into the cache, and Q becomes the request's tag plus 1 (R131, R132,
R133). -/
def State.conclude (s : State) (r : Payload) (x : Response) : State :=
  s.withMgmt { s.mgmt with
    responses := s.mgmt.responses ++ [x]
    cache := some x
    expected := requestTag r + 1 }

/-- The head of the Request Queue has left it (R128). -/
def State.dequeue (s : State) (rest : List Payload) : State :=
  s.withMgmt { s.mgmt with requests := rest }

/-- The sequencing of request `r`, already out of the queue: it is executed by `run`, replayed or refused (R131 to R135). -/
def State.handle (s : State) (r : Payload) (run : Payload → State → Reply) : State :=
  match s.mgmt.sequence r with
  | .execute => (run r s).state.conclude r (responseTo r (run r s).status (run r s).data)
  | .replay c => s.respond c
  | .outOfSequence => s.respond (responseTo r .sequence [s.mgmt.expected])

/-- The engine can take a request whose code satisfies `mine`: it is at the head of the Request Queue and the Response Queue
holds fewer than 4 responses (R128, R130). -/
def State.canTake (s : State) (mine : Byte → Bool) : Bool :=
  match s.mgmt.requests with
  | [] => false
  | r :: _ => s.mgmt.responses.length < Config.responseDepth && mine (requestCode r)

/-- The taking of the request at the head of the Request Queue, when it is one of the row's (`mine`) and the Response Queue has
room; otherwise no such taking occurs (R128, R130; log entry 1). -/
def State.take (s : State) (mine : Byte → Bool) (run : Payload → State → Reply) : State :=
  match s.mgmt.requests with
  | [] => s
  | r :: rest => if s.canTake mine then (s.dequeue rest).handle r run else s

/-- The outcome of a request row: the taking of a request with this code. -/
def takeRequest (code : Byte) (run : Payload → State → Reply) (s : State) : Host.Outcome State Fault Refusal :=
  .next (s.take (fun c => c = code) run)

end Sys2Proof.Machine
end

