-- ==== Sys2Proof/Machine/FlowRequests.lean ====
section
/-! DEFINITION. The requests on flows: OPEN_FLOW, SET_CONTRACT, COMMIT_CONTRACT, SUSPEND_FLOW, RESUME_FLOW, CLOSE_FLOW and
READ_FLOW (chapters 1 and 2, 9.3). -/

namespace Sys2Proof.Machine

/-- The flow is OPEN or SUSPENDED. -/
def Lifecycle.live : Lifecycle → Bool
  | .unused => false
  | .opened => true
  | .suspended => true
  | .draining => false

/-! ## OPEN_FLOW -/

/-- The record of a flow opened now; X keeps its value (R27). -/
def FlowRecord.openWith (old : FlowRecord) (now : Stamp) (port : Port) (channel : UserChannel) (q : Priority) (limit : Nat)
    (c : Contract) : FlowRecord :=
  { lifecycle := .opened, egressPort := port, egressChannel := channel, priority := q, queueLimit := limit, active := c,
    pending := none, due := now, cyclePos := 0, sched := .empty, eligible := old.eligible, queue := [] }

/-- OPEN_FLOW (R27, R145). -/
def runOpenFlow (r : Payload) (s : State) : Reply :=
  withFlow r 0 s fun f =>
  checked (channelOf (param2 r 3)) .badIndex s fun ch =>
  checked (portOf (param r 2)) .badValue s fun p =>
  checked (priorityOf (param r 5)) .badValue s fun q =>
  checked (within 1 64 (param r 6).toNat) .badValue s fun lim =>
  checked (contractOf r 7) .badValue s fun c =>
  require ((s.flow f).lifecycle = .unused) .state s
  (okReply ((s.setFlow f ((s.flow f).openWith s.now p ch q lim c)).setFlowCounters f FlowCounters.zero) (bytes3 s.now))

/-! ## SET_CONTRACT and COMMIT_CONTRACT -/

/-- The effect of SET_CONTRACT by the flow's cycle position and pending contract, with its indication PROMOTED 0, PENDING 1 or
REPLACED 2 (R14, R146, R193). -/
def State.setContract (s : State) (f : FlowNo) (c : Contract) : Reply :=
  let r := s.flow f
  let u := s.setFlow f { r with pending := some c }
  if r.cyclePos = 0 then okReply (u.promoteNow f) [0]
  else if r.pending.isSome then acceptReply u [2]
  else acceptReply u [1]

/-- SET_CONTRACT (R14, R146). -/
def runSetContract (r : Payload) (s : State) : Reply :=
  withFlow r 0 s fun f =>
  require (s.flow f).lifecycle.live .state s
  (checked (contractOf r 2) .badValue s fun c => s.setContract f c)

/-- COMMIT_CONTRACT (R19, R147). -/
def runCommitContract (r : Payload) (s : State) : Reply :=
  withFlow r 0 s fun f =>
  require (s.flow f).lifecycle.live .state s
  (require (s.flow f).pending.isSome .state s
  (okReply (s.promoteNow f) []))

/-! ## SUSPEND_FLOW and RESUME_FLOW -/

/-- The suspension of flow `f` (R28). -/
def State.suspend (s : State) (f : FlowNo) : State :=
  let u := s.unschedule f
  u.setFlow f { u.flow f with
    lifecycle := .suspended
    sched := if (u.flow f).queue = [] then .empty else .held }

/-- SUSPEND_FLOW (R28, R148). -/
def runSuspendFlow (r : Payload) (s : State) : Reply :=
  withFlow r 0 s fun f =>
  require ((s.flow f).lifecycle = .opened) .state s
  (let u := s.suspend f
   okReply u [byteOf (u.flow f).sched.code, byteOf (u.flow f).queue.length])

/-- RESUME_FLOW with KEEP: OPEN, and placed as it stands (R29). -/
def State.resumeKeep (s : State) (f : FlowNo) : State :=
  (s.setFlow f { s.flow f with lifecycle := .opened }).place f

/-- RESUME_FLOW with RESTART: OPEN, a pending contract promoted, D now, k 0, and placed (R20, R30). -/
def State.resumeRestart (s : State) (f : FlowNo) : State :=
  (s.setFlow f { (s.flow f).promote with lifecycle := .opened, due := s.now, cyclePos := 0 }).place f

/-- The data of a resume: the scheduling state, and X when the flow is WAITING (R149, R194). -/
def FlowRecord.resumeData (r : FlowRecord) : List Byte :=
  byteOf r.sched.code :: bytes3 (if r.sched = .waiting then r.eligible else 0)

/-- RESUME_FLOW (R29, R30, R149). Option `true` is RESTART. -/
def runResumeFlow (r : Payload) (s : State) : Reply :=
  withFlow r 0 s fun f =>
  checked (optionOf (param r 2)) .badValue s fun restart =>
  require ((s.flow f).lifecycle = .suspended) .state s
  (let u := if restart then s.resumeRestart f else s.resumeKeep f
   okReply u (u.flow f).resumeData)

/-! ## CLOSE_FLOW -/

/-- An ARMED probe on flow `f` is aborted, with PROBE_DONE (ABORTED) (R190). -/
def State.abortProbe (s : State) (f : FlowNo) : State :=
  if s.probe.state = .armed ∧ s.probe.flow = f then
    (s.withProbe { s.probe with state := .aborted }).post (.probeDone f) .aborted
  else s

/-- DRAIN of an OPEN flow with cells queued (R33). -/
def State.startDrain (s : State) (f : FlowNo) : State :=
  (s.setFlow f { s.flow f with lifecycle := .draining, pending := none }).abortProbe f

/-- DRAIN of an OPEN flow whose queue is empty (R34). -/
def State.closeEmpty (s : State) (f : FlowNo) : State :=
  (s.setFlow f { s.flow f with lifecycle := .unused, pending := none }).abortProbe f

/-- The slots of a flushed queue go back to the free list, and the levels are tested once when any slot came back (R36 item 2,
R79). -/
def State.returnSlots (s : State) (slots : List SlotNo) : State :=
  if slots = [] then s else (s.withBuffer (s.buffer.giveBack slots)).clearLevels

/-- FLUSH (R36). -/
def State.flush (s : State) (f : FlowNo) : State :=
  let r := s.flow f
  let u := (((s.unschedule f).returnSlots r.queue).countFlow f (FlowCounters.addFlushed r.queue.length)).setFlow f
    { r with queue := [], sched := .empty, lifecycle := .unused, pending := none }
  let v := u.abortProbe f
  if r.lifecycle = .draining then v.post (.flowClosed f) .flushed else v

/-- The effect of a DRAIN by lifecycle state (R32, R33, R34). -/
def State.closeDrain (s : State) (f : FlowNo) : Reply :=
  match (s.flow f).lifecycle with
  | .opened =>
    if (s.flow f).queue = [] then okReply (s.closeEmpty f) [0]
    else acceptReply (s.startDrain f) [byteOf (s.flow f).queue.length]
  | .unused => refuse s .state
  | .suspended => refuse s .state
  | .draining => refuse s .state

/-- The effect of a FLUSH by lifecycle state (R32, R36). -/
def State.closeFlush (s : State) (f : FlowNo) : Reply :=
  match (s.flow f).lifecycle with
  | .unused => refuse s .state
  | .opened => okReply (s.flush f) [byteOf (s.flow f).queue.length]
  | .suspended => okReply (s.flush f) [byteOf (s.flow f).queue.length]
  | .draining => okReply (s.flush f) [byteOf (s.flow f).queue.length]

/-- CLOSE_FLOW (R32, R150). Option `true` is FLUSH. -/
def runCloseFlow (r : Payload) (s : State) : Reply :=
  withFlow r 0 s fun f =>
  checked (optionOf (param r 2)) .badValue s fun flush =>
  require (s.refCount f = 0) .mapped s
  (if flush then s.closeFlush f else s.closeDrain f)

/-! ## READ_FLOW -/

/-- View STATUS (R151, R194). -/
def FlowRecord.statusData (r : FlowRecord) (refs : Nat) : List Byte :=
  [byteOf r.lifecycle.code, byteOf r.sched.code, byteOf r.pending.isSome.toNat, byteOf (portCode r.egressPort)]
    ++ numBytes2 r.egressChannel.val ++ [byteOf r.priority.val, byteOf r.queueLimit, byteOf r.queue.length]
    ++ numBytes2 refs ++ r.active.bytes ++ bytes3 r.due ++ [byteOf r.cyclePos] ++ bytes3 r.eligible

/-- View PENDING: the indication and the pending contract, or zeros (R152, R194). -/
def FlowRecord.pendingData (r : FlowRecord) : List Byte :=
  match r.pending with
  | none => [0]
  | some c => 1 :: c.bytes

/-- The data of a view (R151, R152). -/
def State.viewData (s : State) (f : FlowNo) : FlowView → List Byte
  | .status => (s.flow f).statusData (s.refCount f)
  | .pending => (s.flow f).pendingData
  | .counters => (s.flowCounters f).bytes

/-- READ_FLOW (R151, R152). -/
def runReadFlow (r : Payload) (s : State) : Reply :=
  withFlow r 0 s fun f =>
  checked (viewOf (param r 2)) .badValue s fun v =>
  okReply s (s.viewData f v)

/-! ## The rows -/

/-- OPEN_FLOW (R145). -/
def execOpenFlow (s : State) : Host.Outcome State Fault Refusal :=
  takeRequest codeOpenFlow runOpenFlow s

/-- SET_CONTRACT (R146). -/
def execSetContract (s : State) : Host.Outcome State Fault Refusal :=
  takeRequest codeSetContract runSetContract s

/-- COMMIT_CONTRACT (R147). -/
def execCommitContract (s : State) : Host.Outcome State Fault Refusal :=
  takeRequest codeCommitContract runCommitContract s

/-- SUSPEND_FLOW (R148). -/
def execSuspendFlow (s : State) : Host.Outcome State Fault Refusal :=
  takeRequest codeSuspendFlow runSuspendFlow s

/-- RESUME_FLOW (R149). -/
def execResumeFlow (s : State) : Host.Outcome State Fault Refusal :=
  takeRequest codeResumeFlow runResumeFlow s

/-- CLOSE_FLOW (R150). -/
def execCloseFlow (s : State) : Host.Outcome State Fault Refusal :=
  takeRequest codeCloseFlow runCloseFlow s

/-- READ_FLOW (R151). -/
def execReadFlow (s : State) : Host.Outcome State Fault Refusal :=
  takeRequest codeReadFlow runReadFlow s

end Sys2Proof.Machine
end

