-- ==== Sys2Proof/Machine/Links.lean ====
section
/-! DEFINITION. LINE_OK_ASSERTION, LINE_OK_DEASSERTION, RESET_ASSERTION and RESET_RELEASE: link state and the power-on reset
(R118 to R120, R177). -/

namespace Sys2Proof.Machine

/-- The transition to UP, with LINK_UP (R120). -/
def State.linkUp (s : State) (p : Port) : State :=
  (s.setPort p { s.port p with link := .up }).post (.linkUp p) .none

/-- The transition to DOWN: a cell in transmission is cut short, LINK_DOWN is posted, nothing queued is touched (R119). -/
def State.linkDown (s : State) (p : Port) : State :=
  (s.setPort p { s.port p with link := .down, tx := none }).post (.linkDown p) .none

/-- The line-OK pin of `p` takes a level. -/
def State.setLineOk (s : State) (p : Port) (b : Bool) : State :=
  s.setPort p { s.port p with lineOk := b }

/-- The line-OK input of `p` goes high: a link transition, unless it is high already or the reset input is held, during which
line-OK is not followed (R118, R120). -/
def State.assertLineOk (s : State) (p : Port) : State :=
  if (s.port p).lineOk then s
  else if s.resetHeld then s.setLineOk p true
  else (s.setLineOk p true).linkUp p

/-- The line-OK input of `p` goes low: a link transition, unless it is low already or the reset input is held (R118, R119). -/
def State.deassertLineOk (s : State) (p : Port) : State :=
  if (s.port p).lineOk then
    if s.resetHeld then s.setLineOk p false else (s.setLineOk p false).linkDown p
  else s

/-- RESET_N goes low: every piece of state takes its power-on value, both ports are DOWN, and the reset input is held. The
line-OK pins are inputs and keep their levels (R118; log entry 9), and the commands that wait go on waiting. -/
def State.holdReset (s : State) : State :=
  { State.reset with
    pending := s.pending
    resetHeld := true
    portT := { LinkPort.reset with lineOk := s.portT.lineOk }
    portF := { LinkPort.reset with lineOk := s.portF.lineOk } }

/-- At the release, a line-OK input that is asserted counts as an assertion at that moment (R118). -/
def State.follow (s : State) (p : Port) : State :=
  if (s.port p).lineOk then s.linkUp p else s

/-- RESET_N goes high: the line-OK inputs are followed again, the port `first` before the other (R118, R177; log entry 14). -/
def State.releaseReset (s : State) (first : Port) : State :=
  if s.resetHeld then (({ s with resetHeld := false } : State).follow first).follow (otherPort first) else s

/-- LINE_OK_ASSERTION (R120). -/
def execLineOkAssertion (p : Port) (s : State) : Host.Outcome State Fault Refusal :=
  .next (s.assertLineOk p)

/-- LINE_OK_DEASSERTION (R119). -/
def execLineOkDeassertion (p : Port) (s : State) : Host.Outcome State Fault Refusal :=
  .next (s.deassertLineOk p)

/-- RESET_ASSERTION (R118). -/
def execResetAssertion (s : State) : Host.Outcome State Fault Refusal :=
  .next s.holdReset

/-- RESET_RELEASE (R118). -/
def execResetRelease (first : Port) (s : State) : Host.Outcome State Fault Refusal :=
  .next (s.releaseReset first)

end Sys2Proof.Machine
end

