-- ==== Sys2Proof/Machine/MapRequests.lean ====
section
/-! DEFINITION. The requests on the Channel Map: PREPARE_MAP, WRITE_MAP, READ_MAP and SWAP_MAP (chapter 4, 9.4). -/

namespace Sys2Proof.Machine

/-- `m` with another Staging bank. -/
def ChannelMap.setStaging (m : ChannelMap) (b : Bank) : ChannelMap :=
  m.setBank m.staging b

/-- PREPARE_MAP: the Staging bank becomes a copy of the Active bank, or all NONE. Option `true` is EMPTY (R57, R153). -/
def runPrepareMap (r : Payload) (s : State) : Reply :=
  checked (optionOf (param r 0)) .badValue s fun empty =>
  okReply (s.withMap (s.map.setStaging (if empty then Bank.none else s.map.activeBank)))
    (byteOf s.map.staging.code :: bytes2 s.map.generation)

/-- WRITE_MAP (R56, R154, R195). -/
def runWriteMap (r : Payload) (s : State) : Reply :=
  checked (portOf (param r 0)) .badValue s fun p =>
  checked (within 1 11 (param r 3).toNat) .badValue s fun n =>
  checked (channelOf (param2 r 1)) .badIndex s fun ch =>
  require (ch.val + n - 1 ≤ 1022) .badIndex s
  (checked (mapValues r n) .badValue s fun vs =>
   okReply (s.withMap (s.map.setStaging (s.map.stagingBank.writeRun p ch.val vs))) [byteOf s.map.staging.code])

/-- The identity of the bank that READ_MAP names by role; `true` is STAGING (R58). -/
def ChannelMap.byRole (m : ChannelMap) (staging : Bool) : BankId :=
  if staging then m.staging else m.active

/-- READ_MAP (R58, R155, R195). -/
def runReadMap (r : Payload) (s : State) : Reply :=
  checked (optionOf (param r 0)) .badValue s fun role =>
  checked (portOf (param r 1)) .badValue s fun p =>
  checked (within 1 12 (param r 4).toNat) .badValue s fun n =>
  checked (channelOf (param2 r 2)) .badIndex s fun ch =>
  require (ch.val + n - 1 ≤ 1022) .badIndex s
  (let i := s.map.byRole role
   let es := (s.map.bank i).readRun p ch.val n
   okReply s (byteOf i.code :: bytes2 s.map.generation ++ numBytes2 (noneMask es) ++ entryBytes es))

/-- Why a swap refuses an entry (R60). -/
inductive SwapReason where
  | unusedFlow
  | notOpen
  | samePort
  deriving DecidableEq, Repr

/-- Its code (R193). -/
def SwapReason.code : SwapReason → Nat
  | .unusedFlow => 1
  | .notOpen => 2
  | .samePort => 3

/-- What is wrong with an entry of port `p` that names a flow with record `r`, if anything (R59, R60). -/
def FlowRecord.swapFault (r : FlowRecord) (p : Port) : Option SwapReason :=
  match r.lifecycle with
  | .unused => some .unusedFlow
  | .draining => some .notOpen
  | .opened => if r.egressPort = p then some .samePort else none
  | .suspended => if r.egressPort = p then some .samePort else none

/-- What is wrong with an entry of port `p`; NONE passes (R59). -/
def State.entryFault (s : State) (p : Port) (e : Option FlowNo) : Option SwapReason :=
  match e with
  | none => none
  | some f => (s.flow f).swapFault p

/-- The first failing entry of port `p`: its channel and the reason (R59). -/
def State.portFault (s : State) (b : Bank) (p : Port) : Option (Port × Nat × SwapReason) :=
  (b.entries p).toList.zipIdx.findSome? fun x => (s.entryFault p x.1).map fun why => (p, x.2, why)

/-- The first failing entry of a bank: port T from channel 0 to 1022, then port F (R59). -/
def State.bankFault (s : State) (b : Bank) : Option (Port × Nat × SwapReason) :=
  (s.portFault b .T).or (s.portFault b .F)

/-- The data of MAP_INVALID: port, channel and reason (R60, R194). -/
def faultData (x : Port × Nat × SwapReason) : List Byte :=
  byteOf (portCode x.1) :: numBytes2 x.2.1 ++ [byteOf x.2.2.code]

/-- SWAP_MAP (R59, R60, R61, R156). -/
def runSwapMap (_ : Payload) (s : State) : Reply :=
  match s.bankFault s.map.stagingBank with
  | some x => { state := s, status := .mapInvalid, data := faultData x }
  | none => okReply (s.withMap s.map.swap) (bytes2 s.map.swap.generation)

/-- PREPARE_MAP (R153). -/
def execPrepareMap (s : State) : Host.Outcome State Fault Refusal :=
  takeRequest codePrepareMap runPrepareMap s

/-- WRITE_MAP (R154). -/
def execWriteMap (s : State) : Host.Outcome State Fault Refusal :=
  takeRequest codeWriteMap runWriteMap s

/-- READ_MAP (R155). -/
def execReadMap (s : State) : Host.Outcome State Fault Refusal :=
  takeRequest codeReadMap runReadMap s

/-- SWAP_MAP (R156). -/
def execSwapMap (s : State) : Host.Outcome State Fault Refusal :=
  takeRequest codeSwapMap runSwapMap s

end Sys2Proof.Machine
end

