-- ==== Sys2Proof/Machine/NoticeRequests.lean ====
section
/-! DEFINITION. GRANT_NOTICES, SET_NOTICE_ENABLE and SOFT_RESET (chapter 10, 9.7, 9.8). -/

namespace Sys2Proof.Machine

/-- The credit after a grant of `n`: cut at 32 (R176). -/
def NoticeUnit.grant (u : NoticeUnit) (n : Nat) : NoticeUnit :=
  { u with credit := min (u.credit + n) Config.creditLimit }

/-- GRANT_NOTICES (R162, R176). -/
def runGrantNotices (r : Payload) (s : State) : Reply :=
  checked (within 0 32 (param r 0).toNat) .badValue s fun n =>
  let u := s.notices.grant n
  okReply (s.withNotices u) [byteOf u.credit]

/-- The enable mask, if its bits 11 to 15 are 0 (R195, R196). -/
def maskOf (w : BitVec 16) : Option (BitVec 11) :=
  if w.extractLsb' 11 5 = 0 then some (w.extractLsb' 0 11) else none

/-- SET_NOTICE_ENABLE (R163, R173). -/
def runSetNoticeEnable (r : Payload) (s : State) : Reply :=
  checked (maskOf (param2 r 0)) .badValue s fun m =>
  okReply (s.withNotices { s.notices with enabled := m }) (bytes2 (m.setWidth 16))

/-- The Cell Buffer after SOFT_RESET: every slot free, peak 0, every level clear, the seven settings kept (R70, R79). -/
def CellBuffer.softReset (b : CellBuffer) : CellBuffer :=
  { CellBuffer.reset with
    slots := b.slots
    level1 := { b.level1 with raised := false }
    level2 := { b.level2 with raised := false }
    level3 := { b.level3 with raised := false }
    hysteresis := b.hysteresis }

/-- The Notice Queue unit after SOFT_RESET: no record, no credit, the sequence number and the enable set kept (R177). -/
def NoticeUnit.softReset (u : NoticeUnit) : NoticeUnit :=
  { u with records := [], credit := 0 }

/-- The effect of SOFT_RESET (R164) on a part that keeps its time, its ports and its Management Engine (R165). -/
def State.softReset (s : State) : State :=
  { s with
    map := ChannelMap.reset
    flows := Vector.replicate 256 FlowRecord.reset
    buffer := s.buffer.softReset
    calendar := calendarReset
    ready := ReadyLists.reset
    notices := s.notices.softReset
    counters := CounterBank.reset
    probe := Probe.reset }

/-- SOFT_RESET (R164, R165). -/
def runSoftReset (_ : Payload) (s : State) : Reply :=
  okReply s.softReset (bytes3 s.now)

/-- GRANT_NOTICES (R162). -/
def execGrantNotices (s : State) : Host.Outcome State Fault Refusal :=
  takeRequest codeGrantNotices runGrantNotices s

/-- SET_NOTICE_ENABLE (R163). -/
def execSetNoticeEnable (s : State) : Host.Outcome State Fault Refusal :=
  takeRequest codeSetNoticeEnable runSetNoticeEnable s

/-- SOFT_RESET (R164). -/
def execSoftReset (s : State) : Host.Outcome State Fault Refusal :=
  takeRequest codeSoftReset runSoftReset s

end Sys2Proof.Machine
end

