-- ==== Sys2Proof/Machine/PoolRequests.lean ====
section
/-! DEFINITION. The requests on the Cell Buffer: SET_WATERMARKS and READ_POOL (chapter 5, 9.5). -/

namespace Sys2Proof.Machine

/-- The seven watermark settings (R80). -/
structure WaterSettings where
  w1 : Nat
  w2 : Nat
  w3 : Nat
  h : Nat
  a1 : ShedAction
  a2 : ShedAction
  a3 : ShedAction
  deriving DecidableEq, Repr

/-- H < W1 < W2 < W3, each W within 1..1024 (R157). -/
def WaterSettings.legal (w : WaterSettings) : Bool :=
  w.h < w.w1 && w.w1 < w.w2 && w.w2 < w.w3 && w.w3 ≤ 1024 && 1 ≤ w.w1

/-- The settings that a SET_WATERMARKS gives, if its actions and classes name something (R157, R194). -/
def waterSettingsOf (r : Payload) : Option WaterSettings :=
  match actionOf (param r 7) (param r 8), actionOf (param r 9) (param r 10), actionOf (param r 11) (param r 12) with
  | some a1, some a2, some a3 =>
    some { w1 := (param2 r 0).toNat, w2 := (param2 r 2).toNat, w3 := (param2 r 4).toNat, h := (param r 6).toNat,
           a1 := a1, a2 := a2, a3 := a3 }
  | _, _, _ => none

/-- The buffer with other settings, its levels as they are raised (R84 item 1). -/
def CellBuffer.withSettings (b : CellBuffer) (w : WaterSettings) : CellBuffer :=
  { b with
    level1 := { threshold := w.w1, action := w.a1, raised := b.level1.raised }
    level2 := { threshold := w.w2, action := w.a2, raised := b.level2.raised }
    level3 := { threshold := w.w3, action := w.a3, raised := b.level3.raised }
    hysteresis := w.h }

/-- SET_WATERMARKS (R84, R157). -/
def runSetWatermarks (r : Payload) (s : State) : Reply :=
  checked (waterSettingsOf r) .badValue s fun w =>
  require w.legal .badValue s
  (let u := (s.withBuffer (s.buffer.withSettings w)).reviseLevels
   okReply u [byteOf u.buffer.raisedCount])

/-- READ_POOL: occupancy, free slots, raised levels and peak; the peak becomes the occupancy (R69, R158). -/
def runReadPool (_ : Payload) (s : State) : Reply :=
  let o := s.buffer.occupancy
  okReply (s.withBuffer { s.buffer with peak := o })
    (numBytes2 o ++ numBytes2 (Config.cellSlots - o) ++ [byteOf s.buffer.raisedCount] ++ numBytes2 s.buffer.peak)

/-- SET_WATERMARKS (R157). -/
def execSetWatermarks (s : State) : Host.Outcome State Fault Refusal :=
  takeRequest codeSetWatermarks runSetWatermarks s

/-- READ_POOL (R158). -/
def execReadPool (s : State) : Host.Outcome State Fault Refusal :=
  takeRequest codeReadPool runReadPool s

end Sys2Proof.Machine
end

