-- ==== Sys2Proof/Machine/ProbeRequests.lean ====
section
/-! DEFINITION. READ_COUNTERS, START_PROBE and READ_PROBE (chapter 11, 9.6). -/

namespace Sys2Proof.Machine

/-- READ_COUNTERS of a flow: six counters and its lifecycle state, the counters zeroed when `clear` (R159, R184). -/
def State.readFlowCounters (s : State) (f : FlowNo) (clear : Bool) : Reply :=
  okReply (if clear then s.setFlowCounters f FlowCounters.zero else s)
    ((s.flowCounters f).bytes ++ [byteOf (s.flow f).lifecycle.code])

/-- READ_COUNTERS of a port: six counters and its link state, the counters zeroed when `clear` (R159, R184). -/
def State.readPortCounters (s : State) (p : Port) (clear : Bool) : Reply :=
  okReply (if clear then s.setPortCounters p PortCounters.zero else s)
    ((s.portCounters p).bytes ++ [byteOf (s.port p).link.code])

/-- READ_COUNTERS. Target `true` is PORT, clear `true` is yes (R159, R184). -/
def runReadCounters (r : Payload) (s : State) : Reply :=
  checked (optionOf (param r 0)) .badValue s fun port =>
  if port then
    checked (portOf (param r 3)) .badValue s fun p =>
    checked (optionOf (param r 4)) .badValue s fun clear => s.readPortCounters p clear
  else
    withFlow r 1 s fun f =>
    checked (optionOf (param r 4)) .badValue s fun clear => s.readFlowCounters f clear

/-- A cancel: an ARMED probe is aborted with PROBE_DONE (ABORTED), and any other is left as it is (R189). -/
def State.cancelProbe (s : State) : State :=
  if s.probe.state = .armed then
    (s.withProbe { s.probe with state := .aborted }).post (.probeDone s.probe.flow) .aborted
  else s

/-- The arming of the probe on flow `f` with `n` arrivals to capture (R186). -/
def State.armProbe (s : State) (f : FlowNo) (n : Nat) : State :=
  s.withProbe { state := .armed, flow := f, target := n, lastStamp := s.now, entries := [] }

/-- START_PROBE (R160, R186, R189). -/
def runStartProbe (r : Payload) (s : State) : Reply :=
  checked (within 0 8 (param r 2).toNat) .badValue s fun n =>
  if n = 0 then okReply s.cancelProbe [byteOf s.cancelProbe.probe.state.code]
  else
    withFlow r 0 s fun f =>
    require (s.probe.state ≠ .armed) .busy s
    (require (s.flow f).lifecycle.live .state s
    (acceptReply (s.armProbe f n) (byteOf f.val :: byteOf n :: bytes3 s.now)))

/-- READ_PROBE (R161). -/
def runReadProbe (_ : Payload) (s : State) : Reply :=
  okReply s s.probe.bytes

/-- READ_COUNTERS (R159). -/
def execReadCounters (s : State) : Host.Outcome State Fault Refusal :=
  takeRequest codeReadCounters runReadCounters s

/-- START_PROBE (R160). -/
def execStartProbe (s : State) : Host.Outcome State Fault Refusal :=
  takeRequest codeStartProbe runStartProbe s

/-- READ_PROBE (R161). -/
def execReadProbe (s : State) : Host.Outcome State Fault Refusal :=
  takeRequest codeReadProbe runReadProbe s

end Sys2Proof.Machine
end

