-- ==== Sys2Proof/Machine/TimeBase.lean ====
section
/-! DEFINITION. TICK and CALENDAR_SERVICE: the reference-clock count, Pace Time, the calendar service and the Refresh Sweep
(chapter 3, R90). -/

namespace Sys2Proof.Machine

/-- The Time Base at a tick: the period count starts again from 0, the period that begins is of the stored divisor, Pace Time
and the sweep pointer advance by 1 (R43, R44, R46, R48). -/
def TimeBase.tick (t : TimeBase) : TimeBase :=
  { t with count := 0, period := t.divisor, now := t.now + 1, sweep := t.sweep + 1 }

/-- D is 65536 or more ticks before now (R49). -/
def FlowRecord.stale (r : FlowRecord) (now : Stamp) : Bool :=
  Config.rebaseLag ≤ (now - r.due).toNat && (now - r.due).toNat < 2 ^ 23

/-- The visit of the Refresh Sweep to flow `f` (R49). -/
def State.sweepVisit (s : State) (f : FlowNo) : State :=
  let r := s.flow f
  if r.lifecycle ≠ .unused && r.stale s.now then s.setFlow f { r with due := s.now } else s

/-- The flow's recorded X equals now: calendar service moves it (R90). -/
def State.isDue (s : State) (f : FlowNo) : Bool :=
  (s.flow f).eligible = s.now

/-- Calendar service of the slot for now: the flows whose X equals now go to the tails of their ready lists, in the order they
stood; the others stay in their places (R90). -/
def State.serviceCalendar (s : State) : State :=
  let l := s.calendarSlot (slotIndex s.now)
  (l.filter s.isDue).foldl State.makeReady (s.setCalendarSlot (slotIndex s.now) (l.filter fun f => !s.isDue f))

/-- A tick: Pace Time advances, the calendar slot for the new Pace Time is serviced, and the sweep visits the flow its pointer
named (R44, R90, R48). While the reset input is held no tick occurs (R43). -/
def State.tick (s : State) : State :=
  if s.resetHeld then s
  else ((s.withTime s.time.tick).serviceCalendar).sweepVisit s.time.sweep

/-- The next tick would move at least one waiting flow (R90). -/
def State.tickReleases (s : State) : Bool :=
  !s.resetHeld &&
    (s.calendarSlot (slotIndex (s.now + 1))).any fun f => (s.flow f).eligible = s.now + 1

/-- One period of the reference clock: the count rises by 1, and a tick occurs when it reaches the divisor of the period under
way; while the reset input is held the count does not run (R43). This is what the part does when no command waits (log entry
6). -/
def State.clockPeriod (s : State) : State :=
  if s.resetHeld then s
  else if s.time.period ≤ s.time.count + 1 then s.tick
  else s.withTime { s.time with count := s.time.count + 1 }

/-- TICK (R44). -/
def execTick (s : State) : Host.Outcome State Fault Refusal :=
  .next s.tick

/-- CALENDAR_SERVICE (R90): the tick whose calendar service moves a waiting flow; where it would move none, the event does not
take place (log entry 5). -/
def execCalendarService (s : State) : Host.Outcome State Fault Refusal :=
  .next (if s.tickReleases then s.tick else s)

end Sys2Proof.Machine
end

