-- ==== Sys2Proof/Machine/TimeRequests.lean ====
section
/-! DEFINITION. SYNC, READ_TIME, SET_TIMEBASE and UNKNOWN_REQUEST (9.2, R132). -/

namespace Sys2Proof.Machine

/-- SYNC: the part's identity and capacities, and the new Q (R133, R142, R194). Q itself is set by the taking. -/
def runSync (r : Payload) (s : State) : Reply :=
  okReply s (bytes2 Config.partCode ++ [Config.revision] ++ numBytes2 Config.flowCount ++ numBytes2 Config.cellSlots
    ++ [byteOf Config.noticeRecords] ++ numBytes2 Config.calendarSlots ++ [requestTag r + 1])

/-- READ_TIME: Pace Time and N (R47, R143). -/
def runReadTime (_ : Payload) (s : State) : Reply :=
  okReply s (bytes3 s.now ++ numBytes2 s.time.divisor)

/-- SET_TIMEBASE: N is stored for the periods that begin from the next tick on (R46, R144). -/
def runSetTimebase (r : Payload) (s : State) : Reply :=
  checked (within 1 4096 (param2 r 0).toNat) .badValue s fun n =>
  require s.allUnused .state s
  (okReply (s.withTime { s.time with divisor := n }) (numBytes2 n))

/-- A request whose code names none of the 22 is refused with BAD_REQUEST, its parameters not read (R132, R196). -/
def runUnknown (_ : Payload) (s : State) : Reply :=
  refuse s .badRequest

/-- SYNC (R142). -/
def execSync (s : State) : Host.Outcome State Fault Refusal :=
  takeRequest codeSync runSync s

/-- READ_TIME (R143). -/
def execReadTime (s : State) : Host.Outcome State Fault Refusal :=
  takeRequest codeReadTime runReadTime s

/-- SET_TIMEBASE (R144). -/
def execSetTimebase (s : State) : Host.Outcome State Fault Refusal :=
  takeRequest codeSetTimebase runSetTimebase s

/-- UNKNOWN_REQUEST (R132): the taking of a request whose code is outside 0x01..0x16. -/
def execUnknownRequest (s : State) : Host.Outcome State Fault Refusal :=
  .next (s.take (fun c => !knownCode c) runUnknown)

end Sys2Proof.Machine
end

