-- ==== Sys2Proof/Machine/Dispatch.lean ====
section
/-! DEFINITION. The dispatch: one arm for each row of spec/opcode_table.json, in the table's order. -/

namespace Sys2Proof.Machine

def exec (i : Instr) (s : State) : Host.Outcome State Fault Refusal :=
  match i with
  | .arrival p cell => Sys2Proof.Machine.execArrival p cell s
  | .probeCompletion p cell => Sys2Proof.Machine.execProbeCompletion p cell s
  | .cycleBoundaryPromotion e => Sys2Proof.Machine.execCycleBoundaryPromotion e s
  | .tick => Sys2Proof.Machine.execTick s
  | .calendarService => Sys2Proof.Machine.execCalendarService s
  | .egressSlot p => Sys2Proof.Machine.execEgressSlot p s
  | .drainCompletion p => Sys2Proof.Machine.execDrainCompletion p s
  | .lineOkAssertion p => Sys2Proof.Machine.execLineOkAssertion p s
  | .lineOkDeassertion p => Sys2Proof.Machine.execLineOkDeassertion p s
  | .resetAssertion => Sys2Proof.Machine.execResetAssertion s
  | .resetRelease first => Sys2Proof.Machine.execResetRelease first s
  | .sync => Sys2Proof.Machine.execSync s
  | .readTime => Sys2Proof.Machine.execReadTime s
  | .setTimebase => Sys2Proof.Machine.execSetTimebase s
  | .openFlow => Sys2Proof.Machine.execOpenFlow s
  | .setContract => Sys2Proof.Machine.execSetContract s
  | .commitContract => Sys2Proof.Machine.execCommitContract s
  | .suspendFlow => Sys2Proof.Machine.execSuspendFlow s
  | .resumeFlow => Sys2Proof.Machine.execResumeFlow s
  | .closeFlow => Sys2Proof.Machine.execCloseFlow s
  | .readFlow => Sys2Proof.Machine.execReadFlow s
  | .prepareMap => Sys2Proof.Machine.execPrepareMap s
  | .writeMap => Sys2Proof.Machine.execWriteMap s
  | .readMap => Sys2Proof.Machine.execReadMap s
  | .swapMap => Sys2Proof.Machine.execSwapMap s
  | .setWatermarks => Sys2Proof.Machine.execSetWatermarks s
  | .readPool => Sys2Proof.Machine.execReadPool s
  | .readCounters => Sys2Proof.Machine.execReadCounters s
  | .startProbe => Sys2Proof.Machine.execStartProbe s
  | .readProbe => Sys2Proof.Machine.execReadProbe s
  | .grantNotices => Sys2Proof.Machine.execGrantNotices s
  | .setNoticeEnable => Sys2Proof.Machine.execSetNoticeEnable s
  | .softReset => Sys2Proof.Machine.execSoftReset s
  | .unknownRequest => Sys2Proof.Machine.execUnknownRequest s

end Sys2Proof.Machine
end

