-- ==== Sys2Proof/Safety.lean ====
section
/-! DEFINITION. The vocabulary of the statements: what a request's taking leaves in the Management Engine, which commands are
request rows, and the laws that the spec says the state keeps, each as a property of one state. -/

namespace Sys2Proof.Machine

/-! ## Requests -/

/-- The commands that take a request: the 22 requests and UNKNOWN_REQUEST. -/
def isRequestRow : Instr → Bool
  | .arrival _ _ => false
  | .probeCompletion _ _ => false
  | .cycleBoundaryPromotion _ => false
  | .tick => false
  | .calendarService => false
  | .egressSlot _ => false
  | .drainCompletion _ => false
  | .lineOkAssertion _ => false
  | .lineOkDeassertion _ => false
  | .resetAssertion => false
  | .resetRelease _ => false
  | .sync => true
  | .readTime => true
  | .setTimebase => true
  | .openFlow => true
  | .setContract => true
  | .commitContract => true
  | .suspendFlow => true
  | .resumeFlow => true
  | .closeFlow => true
  | .readFlow => true
  | .prepareMap => true
  | .writeMap => true
  | .readMap => true
  | .swapMap => true
  | .setWatermarks => true
  | .readPool => true
  | .readCounters => true
  | .startProbe => true
  | .readProbe => true
  | .grantNotices => true
  | .setNoticeEnable => true
  | .softReset => true
  | .unknownRequest => true

/-- The row of a request code (R193, R196). -/
def rowOf (c : Byte) : Instr :=
  if c = 0x01 then .sync else if c = 0x02 then .readTime else if c = 0x03 then .setTimebase else if c = 0x04 then .openFlow
  else if c = 0x05 then .setContract else if c = 0x06 then .commitContract else if c = 0x07 then .suspendFlow
  else if c = 0x08 then .resumeFlow else if c = 0x09 then .closeFlow else if c = 0x0A then .readFlow
  else if c = 0x0B then .prepareMap else if c = 0x0C then .writeMap else if c = 0x0D then .readMap
  else if c = 0x0E then .swapMap else if c = 0x0F then .setWatermarks else if c = 0x10 then .readPool
  else if c = 0x11 then .readCounters else if c = 0x12 then .startProbe else if c = 0x13 then .readProbe
  else if c = 0x14 then .grantNotices else if c = 0x15 then .setNoticeEnable else if c = 0x16 then .softReset
  else .unknownRequest

/-- Request `r` heads the Request Queue, `rest` waits behind it, and the Response Queue has room: it can be taken (R128). -/
structure Takes (s : State) (r : Payload) (rest : List Payload) : Prop where
  head : s.mgmt.requests = r :: rest
  room : s.mgmt.responses.length < 4

/-- Request `r` can be taken, has this code, and carries the expected tag: it is executed (R128, R131). -/
structure Executes (s : State) (code : Byte) (r : Payload) (rest : List Payload) : Prop where
  head : s.mgmt.requests = r :: rest
  room : s.mgmt.responses.length < 4
  code : requestCode r = code
  tag : requestTag r = s.mgmt.expected

/-- The Management Engine after the execution of `r`: the request gone, its response with this status and data at the tail of the
Response Queue and in the cache, and Q one past its tag (R131, R132). -/
def Management.answered (m : Management) (r : Payload) (rest : List Payload) (st : Status) (data : List Byte) : Management :=
  { requests := rest
    responses := m.responses ++ [responseTo r st data]
    expected := requestTag r + 1
    cache := some (responseTo r st data) }

/-- The Management Engine after a taking that executes nothing: the request gone, `x` at the tail of the Response Queue, Q and
the cache as they were (R134, R135). -/
def Management.repeated (m : Management) (rest : List Payload) (x : Response) : Management :=
  { m with requests := rest, responses := m.responses ++ [x] }

/-! ## Postings and watermark levels, as lists -/

/-- Several postings of one event, made one after another (R171). -/
def NoticeUnit.postAll (u : NoticeUnit) (now : Stamp) (l : List (Notice × Detail)) : NoticeUnit :=
  l.foldl (fun v x => v.post x.1 now x.2) u

/-- The level is clear and O has come to its threshold (R82). -/
def CellBuffer.rises (b : CellBuffer) (l : Level) : Bool :=
  !(b.level l).raised && b.occupancy = (b.level l).threshold

/-- The level is raised and O < W − H (R83). -/
def CellBuffer.falls (b : CellBuffer) (l : Level) : Bool :=
  (b.level l).raised && b.occupancy + b.hysteresis < (b.level l).threshold

/-- The buffer with each level raised or clear as `up` says. -/
def CellBuffer.withRaised (b : CellBuffer) (up : Level → Bool) : CellBuffer :=
  { b with
    level1 := { b.level1 with raised := up .one }
    level2 := { b.level2 with raised := up .two }
    level3 := { b.level3 with raised := up .three } }

/-- WATERMARK_UP for the levels that `up` names, in ascending order (R84). -/
def risePostings (up : Level → Bool) : List (Notice × Detail) :=
  ([Level.one, Level.two, Level.three].filter up).map fun l => (Notice.watermarkUp l, Detail.none)

/-- WATERMARK_DOWN for the levels that `down` names, in descending order (R83, R84). -/
def fallPostings (down : Level → Bool) : List (Notice × Detail) :=
  ([Level.three, Level.two, Level.one].filter down).map fun l => (Notice.watermarkDown l, Detail.none)

/-! ## The arrival of a user cell -/

/-- The arrival of these bytes at port `p` hands cell `c` to admission for flow `f`: 32 bytes at an UP port, with a check that
matches, of a user kind, on a channel 0..1022 whose Active entry for the port names the flow; what is handed over is the mark of
the kind with the carry, the label and the payload (R54, R111, R112, R113). -/
structure HandsOver (s : State) (p : Port) (cell : List Byte) (f : FlowNo) (c : StoredCell) : Prop where
  whole : cell.length = 32
  up : (s.port p).link = .up
  check : crc8 (Cell.ofBytes cell).top = (Cell.ofBytes cell).check
  kind : (Cell.ofBytes cell).kind = .user ∨ (Cell.ofBytes cell).kind = .userDe
  entry : ∃ ch : UserChannel, (Cell.ofBytes cell).channel.toNat = ch.val ∧ s.map.activeBank.entry p ch = some f
  handed : c = { de := decide ((Cell.ofBytes cell).kind = .userDe), carry := (Cell.ofBytes cell).carry,
                 label := (Cell.ofBytes cell).label, payload := (Cell.ofBytes cell).payload }

/-! ## Placement of flows -/

/-- The scheduling state that a flow's queue, lifecycle state, active contract and D give it at Pace Time `now`: the column
"Becomes" of the tables of R17, R29, R77 and R98. -/
def FlowRecord.becomes (r : FlowRecord) (now : Stamp) : Sched :=
  if r.queue = [] then .empty
  else if r.lifecycle = .suspended then .held
  else if r.active.mode = .pace ∧ after (r.due - r.active.tolerance.setWidth 24) now = true then .waiting
  else .ready

/-- The record with that scheduling state, X recorded when it is WAITING (R88). -/
def FlowRecord.filed (r : FlowRecord) (now : Stamp) : FlowRecord :=
  { r with
    sched := r.becomes now
    eligible := if r.becomes now = .waiting then r.due - r.active.tolerance.setWidth 24 else r.eligible }

/-- EMPTY goes with an empty queue and HELD with a SUSPENDED flow that has cells (R25, R26). -/
def FlowRecord.StandsRight (r : FlowRecord) : Prop :=
  (r.sched = .empty ↔ r.queue = []) ∧ (r.sched = .held ↔ r.lifecycle = .suspended ∧ r.queue ≠ [])

/-- A ready list without flow `f`, wherever it stood there (R28, R36). -/
def State.readyWithout (s : State) (f : FlowNo) (p : Port) (q : Priority) : List FlowNo :=
  if (s.flow f).sched = .ready ∧ (s.flow f).egressPort = p ∧ (s.flow f).priority = q then (s.readyList p q).erase f
  else s.readyList p q

/-- A calendar slot without flow `f` (R89). -/
def State.slotWithout (s : State) (f : FlowNo) (i : Fin 1024) : List FlowNo :=
  if (s.flow f).sched = .waiting ∧ slotIndex (s.flow f).eligible = i then (s.calendarSlot i).erase f else s.calendarSlot i

/-- In `t` flow `f` has been taken out of the structure that held it in `s`, and stands at the tail of the ready list or calendar
slot that its record in `t` names, or in neither; nothing else has moved. -/
structure Refiled (s t : State) (f : FlowNo) : Prop where
  ready : ∀ p q, t.readyList p q = s.readyWithout f p q ++
    if (t.flow f).sched = .ready ∧ (t.flow f).egressPort = p ∧ (t.flow f).priority = q then [f] else []
  waiting : ∀ i, t.calendarSlot i = s.slotWithout f i ++
    if (t.flow f).sched = .waiting ∧ slotIndex (t.flow f).eligible = i then [f] else []

/-- The ready lists and the calendar are as they were. -/
def Unmoved (s t : State) : Prop :=
  t.ready = s.ready ∧ t.calendar = s.calendar

/-- The record after a due-time update at `now`, with the promotion of a cycle boundary (R3, R16, R18). -/
def FlowRecord.updated (r : FlowRecord) (now : Stamp) : FlowRecord :=
  if r.atBoundary then (r.dueUpdate now).promote else r.dueUpdate now

/-- The CONTRACT_PROMOTED of a cycle boundary, if there is one (R18). -/
def FlowRecord.boundaryPostings (r : FlowRecord) (f : FlowNo) : List (Notice × Detail) :=
  if r.atBoundary then [(.contractPromoted f, .none)] else []

/-! ## What a tick does to a flow -/

/-- The new Pace Time of a tick moves flow `f`: it stands in the calendar slot for it and its recorded X equals it (R90). -/
def State.tickMoves (s : State) (f : FlowNo) : Prop :=
  f ∈ s.calendarSlot (slotIndex (s.time.now + 1)) ∧ (s.flow f).eligible = s.time.now + 1

/-- The sweep visit of a tick rebases flow `f` (R49). -/
def State.tickRebases (s : State) (f : FlowNo) : Prop :=
  f = s.time.sweep ∧ (s.flow f).lifecycle ≠ .unused ∧ 65536 ≤ (s.time.now + 1 - (s.flow f).due).toNat ∧
    (s.time.now + 1 - (s.flow f).due).toNat < 2 ^ 23

/-! ## Laws of the Management Engine and the ports -/

/-- Both queues of the Management Engine hold at most 4 entries (R127, R129). -/
def QueuesBounded (s : State) : Prop :=
  s.mgmt.requests.length ≤ 4 ∧ s.mgmt.responses.length ≤ 4

/-- The cached response answers the request whose tag is Q − 1 (R134). -/
def CacheLaw (s : State) : Prop :=
  ∀ r, s.mgmt.cache = some r → r.tag = s.mgmt.expected - 1

/-- A port is UP exactly while its line-OK input is asserted and the reset input is released, and a DOWN port transmits nothing
(R118, R119). -/
def LinkLaw (s : State) : Prop :=
  ∀ p, ((s.port p).link = .up ↔ (s.port p).lineOk = true ∧ s.resetHeld = false) ∧
    ((s.port p).link = .down → (s.port p).tx = none)

/-! ## Laws of the notice unit and the probe -/

/-- The details that a notice's kind carries (R168). -/
def Notice.detailFits : Notice → Detail → Bool
  | .flowClosed _, d => d = .drained ∨ d = .flushed
  | .probeDone _, d => d = .complete ∨ d = .aborted
  | .poolFull, d => d = .none
  | .linkDown _, d => d = .none
  | .noticesLost, d => d = .none
  | .queueFull _, d => d = .none
  | .watermarkUp _, d => d = .none
  | .headerErrors _, d => d = .none
  | .linkUp _, d => d = .none
  | .watermarkDown _, d => d = .none
  | .contractPromoted _, d => d = .none

/-- The Notice Queue: at most 32 records, of which at most 31 of kinds other than NOTICES_LOST, no two of one kind and subject,
each with a count of 1..255 and a detail that its kind carries; the credit at most 32 (R167 to R172). -/
structure NoticeLaw (s : State) : Prop where
  length : s.notices.records.length ≤ 32
  places : (s.notices.records.filter fun r => r.what ≠ .noticesLost).length ≤ 31
  distinct : (s.notices.records.map NoticeRecord.what).Nodup
  counts : ∀ r ∈ s.notices.records, 1 ≤ r.count ∧ r.count ≤ 255
  details : ∀ r ∈ s.notices.records, r.what.detailFits r.detail = true
  credit : s.notices.credit ≤ 32

/-- The probe record: a target of at most 8, no more entries than the target, fewer while ARMED, all of them once DONE; an ARMED
probe's flow is OPEN or SUSPENDED (R185, R190). -/
structure ProbeLaw (s : State) : Prop where
  target : s.probe.target ≤ 8
  held : s.probe.entries.length ≤ s.probe.target
  armed : s.probe.state = .armed → s.probe.entries.length < s.probe.target
  done : s.probe.state = .done → s.probe.entries.length = s.probe.target
  live : s.probe.state = .armed → (s.flow s.probe.flow).lifecycle.live = true

/-! ## Laws of the Channel Map and the contracts -/

/-- The reference counts count the Active entries, and every Active entry names a flow that is OPEN or SUSPENDED and egresses on
the other port (R59, R63, R32). -/
structure MapLaw (s : State) : Prop where
  counts : ∀ f, s.refCount f = s.map.activeBank.naming f
  entries : ∀ p c f, s.map.activeBank.entry p c = some f →
    (s.flow f).lifecycle.live = true ∧ (s.flow f).egressPort = otherPort p

/-- A flow record's contracts are in range, k is below C; a pending contract stands only beside a k that is not 0 on an OPEN or
SUSPENDED flow; a PASS flow's k is 0 (R1, R2, R8, R14, R15). -/
structure FlowRecord.ContractsSound (r : FlowRecord) : Prop where
  active : r.active.legal = true
  pending : ∀ c, r.pending = some c → c.legal = true
  position : r.cyclePos < r.active.cycle
  waiting : r.pending.isSome → r.cyclePos ≠ 0 ∧ r.lifecycle.live = true
  pass : r.active.mode = .pass → r.cyclePos = 0

/-- Every flow record's contracts are sound. -/
def ContractLaw (s : State) : Prop :=
  ∀ f, (s.flow f).ContractsSound

/-! ## Laws of the Cell Buffer -/

/-- Every cell slot is on the free list or in exactly one flow's queue, once; a queue is no longer than its limit, which is
1..64; an UNUSED flow's queue is empty; the peak is not below the occupancy (R22, R23, R68, R69). -/
structure PoolLaw (s : State) : Prop where
  slots : (s.buffer.freeList ++ s.flows.toList.flatMap FlowRecord.queue).Perm (List.finRange 1024)
  limits : ∀ f, (s.flow f).queue.length ≤ (s.flow f).queueLimit ∧ 1 ≤ (s.flow f).queueLimit ∧ (s.flow f).queueLimit ≤ 64
  unused : ∀ f, (s.flow f).lifecycle = .unused → (s.flow f).queue = []
  peak : s.buffer.occupancy ≤ s.buffer.peak ∧ s.buffer.peak ≤ 1024

/-- A clear level's threshold is above O, and a raised level's is at most H above it (R82, R83). -/
def CellBuffer.levelSound (b : CellBuffer) (w : WaterLevel) : Prop :=
  (w.raised = false → b.occupancy < w.threshold) ∧ (w.raised = true → w.threshold ≤ b.occupancy + b.hysteresis)

/-- H < W1 < W2 < W3 ≤ 1024, each level raised or clear as O and the hysteresis allow, and the raised levels run up from level 1
(R80, R82, R83, R157, R193). -/
structure WatermarkLaw (s : State) : Prop where
  order1 : s.buffer.hysteresis < s.buffer.level1.threshold
  order2 : s.buffer.level1.threshold < s.buffer.level2.threshold
  order3 : s.buffer.level2.threshold < s.buffer.level3.threshold
  order4 : s.buffer.level3.threshold ≤ 1024
  sound : ∀ l, s.buffer.levelSound (s.buffer.level l)
  run2 : s.buffer.level2.raised = true → s.buffer.level1.raised = true
  run3 : s.buffer.level3.raised = true → s.buffer.level2.raised = true

/-! ## Laws of scheduling and of due times -/

/-- The ticks until the Refresh Sweep's next visit to flow `f`, less one: 0..255 (R48). -/
def State.sweepDistance (s : State) (f : FlowNo) : Nat :=
  (f - s.time.sweep).val

/-- The due-time window of R13 with the sweep's place in it: D at most 131071 ticks after now, or behind it by no more than what
the sweep's next visit to the flow allows. -/
def State.dueInWindow (s : State) (f : FlowNo) : Prop :=
  ((s.flow f).due - s.now).toNat ≤ Config.dueLead ∨ (s.now - (s.flow f).due).toNat + s.sweepDistance f ≤ 65790

/-- Where each flow stands (R11, R13, R25, R26, R87, R88, R92): EMPTY goes with an empty queue and HELD with a SUSPENDED flow that
has cells; a flow stands in the calendar once, in the slot of its X, when it is WAITING, and in a ready list once, that of its
egress port and priority, when it is READY, and nowhere else; a WAITING flow is paced, its recorded X is D − T and is after now;
a READY PACE flow's X is not after now; D is in its window. -/
structure SchedulingLaw (s : State) : Prop where
  unused : ∀ f, (s.flow f).lifecycle = .unused → (s.flow f).queue = []
  empty : ∀ f, (s.flow f).sched = .empty ↔ (s.flow f).queue = []
  held : ∀ f, (s.flow f).sched = .held ↔ (s.flow f).lifecycle = .suspended ∧ (s.flow f).queue ≠ []
  ready : ∀ f p q, (s.readyList p q).count f =
    if (s.flow f).sched = .ready ∧ (s.flow f).egressPort = p ∧ (s.flow f).priority = q then 1 else 0
  waiting : ∀ f i, (s.calendarSlot i).count f =
    if (s.flow f).sched = .waiting ∧ slotIndex (s.flow f).eligible = i then 1 else 0
  filed : ∀ f, (s.flow f).sched = .waiting →
    (s.flow f).active.mode = .pace ∧ (s.flow f).eligible = (s.flow f).eligibleTime ∧ after (s.flow f).eligible s.now = true
  onTime : ∀ f, (s.flow f).sched = .ready → (s.flow f).active.mode = .pace → notBefore s.now (s.flow f).eligibleTime = true
  window : ∀ f, (s.flow f).lifecycle ≠ .unused → s.dueInWindow f

/-! ## Law of the Time Base -/

/-- The divisors are 1..4096 and the period count has not reached the divisor of the period under way (R43, R46). -/
structure TimeLaw (s : State) : Prop where
  divisor : 1 ≤ s.time.divisor ∧ s.time.divisor ≤ 4096
  period : 1 ≤ s.time.period ∧ s.time.period ≤ 4096
  count : s.time.count < s.time.period

end Sys2Proof.Machine
end

