-- ==== Sys2Proof/Certificates/Slice0/Obligations.lean ====
section
/-! DEFINITION. The statements for the provers, one definition each; OBLIGATIONS.json lists them with the rules they formalise. -/

open Sys2Proof Sys2Proof.Machine

/-! ## The machine as a whole -/

/-- A step takes the command at the front of the queue and answers what its meaning answers on the rest. -/
def Obligations.StepRunsFrontCommand : Prop :=
  ∀ (c : Instr) (rest : List Instr) (s : State), s.pending = c :: rest →
    Sys2Proof.Machine.step s = exec c { s with pending := rest }

/-- With no command waiting and the reset input released, each step is one reference-clock period, and the step that completes
the period under way is the tick (log entry 6); with the reset input held, a step changes nothing. -/
def Obligations.IdleStepsReachTheTick : Prop :=
  ∀ s : State, s.pending = [] →
    (s.resetHeld = true → Sys2Proof.Machine.step s = .next s) ∧
    (s.resetHeld = false → s.time.count < s.time.period →
      (∀ k, k < s.time.period - s.time.count →
        Host.Core.run Sys2Proof.core k s = .next { s with time := { s.time with count := s.time.count + k } }) ∧
      Host.Core.run Sys2Proof.core (s.time.period - s.time.count) s = exec .tick s)

/-- Every command in every state answers a next state, and leaves the queue of waiting commands alone. The spec's steps stop the part
nowhere; that a command which cannot occur in a state (log entry 8) and a command in a state that no run reaches (log entry 13)
answer a next state too, and that the waiting commands are kept (log entry 16), is the model's choice. -/
def Obligations.EveryCommandAnswersANextState : Prop :=
  ∀ (i : Instr) (s : State), ∃ t, exec i s = .next t ∧ t.pending = s.pending

/-- Flow balance: over any command but OPEN_FLOW, READ_COUNTERS, SOFT_RESET and the reset input, Accepted less Sent, Flushed and
the queue length is unchanged, modulo 2^32. -/
def Obligations.FlowBalanceIsKept : Prop :=
  ∀ (i : Instr) (s t : State) (f : FlowNo),
    i ≠ .openFlow → i ≠ .readCounters → i ≠ .softReset → i ≠ .resetAssertion → exec i s = .next t →
    (t.flowCounters f).accepted - (t.flowCounters f).sent - (t.flowCounters f).flushed
        - BitVec.ofNat 32 (t.flow f).queue.length
      = (s.flowCounters f).accepted - (s.flowCounters f).sent - (s.flowCounters f).flushed
        - BitVec.ofNat 32 (s.flow f).queue.length

/-! ## Resets and links -/

/-- What both resets leave in the Flow Table, the Channel Map, the Cell Buffer, the calendar, the ready lists, the counters, the
notice unit and the probe, by the tables of R24, R53, R70 and R177 and the words of R87, R92, R183 and R185: the settings, the
sequence number and the enable set are those of power-on after a power-on reset and are kept by a SOFT_RESET. -/
def Obligations.BothResetsLeaveTheTabledValues : Prop :=
  ∀ (s t : State),
    (exec .resetAssertion s = .next t ∨ ∃ r rest, Executes s 0x16 r rest ∧ exec .softReset s = .next t) →
    (∀ f, t.flow f =
      { lifecycle := .unused, egressPort := .T, egressChannel := 0, priority := 0, queueLimit := 1,
        active := { mode := .pass, period := 2, cycle := 1, extension := 0, tolerance := 0 }, pending := none, due := 0,
        cyclePos := 0, sched := .empty, eligible := 0, queue := [] }) ∧
    (∀ p c, t.map.bankA.entry p c = none ∧ t.map.bankB.entry p c = none) ∧ t.map.active = .A ∧ t.map.generation = 0 ∧
    (∀ f, t.refCount f = 0) ∧
    t.buffer.freeList.Perm (List.finRange 1024) ∧ t.buffer.occupancy = 0 ∧ t.buffer.peak = 0 ∧
    (∀ l, (t.buffer.level l).raised = false) ∧
    (∀ i, t.calendarSlot i = []) ∧ (∀ p q, t.readyList p q = []) ∧
    (∀ f, t.flowCounters f = { accepted := 0, tagged := 0, policed := 0, dropped := 0, sent := 0, flushed := 0 }) ∧
    (∀ p, t.portCounters p =
      { received := 0, headerErrors := 0, unmapped := 0, misdirected := 0, requestsDropped := 0, sent := 0 }) ∧
    t.notices.records = [] ∧ t.notices.credit = 0 ∧
    t.probe = { state := .idle, flow := 0, target := 0, lastStamp := 0, entries := [] } ∧
    (exec .resetAssertion s = .next t →
      (t.buffer.level1.threshold, t.buffer.level2.threshold, t.buffer.level3.threshold, t.buffer.hysteresis)
        = (768, 896, 992, 32) ∧
      (t.buffer.level1.action, t.buffer.level2.action, t.buffer.level3.action) = (.noticeOnly, .shedDe, .shedBelow 3) ∧
      t.notices.seq = 0 ∧ t.notices.enabled = BitVec.allOnes 11) ∧
    ((∃ r rest, Executes s 0x16 r rest ∧ exec .softReset s = .next t) →
      (∀ l, (t.buffer.level l).threshold = (s.buffer.level l).threshold ∧
        (t.buffer.level l).action = (s.buffer.level l).action) ∧
      t.buffer.hysteresis = s.buffer.hysteresis ∧ t.notices.seq = s.notices.seq ∧ t.notices.enabled = s.notices.enabled)

/-- RESET_ASSERTION: every piece of state takes its power-on value, both ports are DOWN, and the reset input is held. The levels of
the line-OK pins and the commands that wait are kept (the model's choice, log entry 9). State.reset holds, where the spec gives no
reset value, the model's: the order of the free list (log entry 3) and zeros in the free cell slots (log entry 4), both DESIGN
CHOICE; that no transmitter holds a cell (log entry 10) and that the period under way is the stored divisor's (log entry 17) are
DEDUCED.
RESET_RELEASE with the reset input held: each port whose line-OK input is asserted goes UP and posts LINK_UP, the port `first`
before the other (log entry 14); nothing else changes. With the input released there is no release. -/
def Obligations.ResetInputHoldsAndReleases : Prop :=
  (∀ s : State, ∃ t, exec .resetAssertion s = .next t ∧
     t = { State.reset with pending := s.pending, resetHeld := true, portT := t.portT, portF := t.portF } ∧
     ∀ p, t.port p = { lineOk := (s.port p).lineOk, link := .down, tx := none }) ∧
  (∀ (first : Port) (s : State),
     (s.resetHeld = true → ∃ t, exec (.resetRelease first) s = .next t ∧
       t = { s with resetHeld := false, portT := t.portT, portF := t.portF, notices := t.notices } ∧
       (∀ p, t.port p = if (s.port p).lineOk then { s.port p with link := .up } else s.port p) ∧
       t.notices = s.notices.postAll s.time.now
         (([first, otherPort first].filter fun p => (s.port p).lineOk).map fun p => (Notice.linkUp p, Detail.none))) ∧
     (s.resetHeld = false → exec (.resetRelease first) s = .next s))

/-- While the reset input is held, with the link law and an empty Request Queue (as RESET_ASSERTION leaves them), no tick, arrival,
slot or taking does anything (a command for an event that cannot occur changes nothing, log entry 8), and the line-OK inputs are not
followed: their rows set the level of the pin (log entry 9). -/
def Obligations.HeldResetStopsThePart : Prop :=
  ∀ s : State, s.resetHeld = true → LinkLaw s → s.mgmt.requests = [] →
    (exec .tick s = .next s ∧ exec .calendarService s = .next s) ∧
    (∀ p cell, exec (.arrival p cell) s = .next s ∧ exec (.probeCompletion p cell) s = .next s ∧
      exec (.cycleBoundaryPromotion (.arrival p cell)) s = .next s) ∧
    (∀ p, exec (.egressSlot p) s = .next s ∧ exec (.drainCompletion p) s = .next s ∧
      exec (.cycleBoundaryPromotion (.slot p)) s = .next s) ∧
    (∀ i, isRequestRow i = true → exec i s = .next s) ∧
    (∀ p, exec (.lineOkAssertion p) s = .next (s.setPort p { s.port p with lineOk := true })) ∧
    (∀ p, exec (.lineOkDeassertion p) s = .next (s.setPort p { s.port p with lineOk := false }))

/-- LINE_OK_ASSERTION and LINE_OK_DEASSERTION with the reset input released: the port goes UP with LINK_UP, or DOWN with LINK_DOWN
and its transmission cut short (log entry 10); the other port and all that is queued stay as they were. An input already at the
level makes no transition (log entry 8). -/
def Obligations.LineOkMovesTheLink : Prop :=
  ∀ (p : Port) (s : State), s.resetHeld = false →
    ((s.port p).lineOk = false → ∃ t, exec (.lineOkAssertion p) s = .next t ∧
      t = { s with portT := t.portT, portF := t.portF, notices := t.notices } ∧
      t.port p = { s.port p with lineOk := true, link := .up } ∧ t.port (otherPort p) = s.port (otherPort p) ∧
      t.notices = s.notices.post (.linkUp p) s.time.now .none) ∧
    ((s.port p).lineOk = true → ∃ t, exec (.lineOkDeassertion p) s = .next t ∧
      t = { s with portT := t.portT, portF := t.portF, notices := t.notices } ∧
      t.port p = { lineOk := false, link := .down, tx := none } ∧ t.port (otherPort p) = s.port (otherPort p) ∧
      t.notices = s.notices.post (.linkDown p) s.time.now .none) ∧
    ((s.port p).lineOk = true → exec (.lineOkAssertion p) s = .next s) ∧
    ((s.port p).lineOk = false → exec (.lineOkDeassertion p) s = .next s)

/-! ## Time -/

/-- Pace Time is changed by the tick alone (R44): each command leaves it, but a tick with the reset input released, which raises
it by 1 modulo 2^24, and the power-on reset, which makes it 0. SET_TIMEBASE leaves the period count where it stands. That
CALENDAR_SERVICE is a TICK or nothing is the model's reading of the table (DEDUCED, log entry 5). -/
def Obligations.PaceTimeChangesByTheTickAlone : Prop :=
  (∀ s : State, s.resetHeld = false → ∃ t, exec .tick s = .next t ∧ t.time.now = s.time.now + 1) ∧
  (0xFFFFFF : Stamp) + 1 = 0x000000 ∧
  State.reset.time.now = 0 ∧
  (∀ s t : State, exec .resetAssertion s = .next t → t.time.now = 0) ∧
  (∀ (i : Instr) (s t : State), i ≠ .tick → i ≠ .calendarService → i ≠ .resetAssertion → exec i s = .next t →
    t.time.now = s.time.now) ∧
  (∀ s t : State, exec .calendarService s = .next t → t = s ∨ exec .tick s = .next t) ∧
  (∀ s t : State, exec .setTimebase s = .next t → t.time.count = s.time.count)

/-- TICK and CALENDAR_SERVICE: Pace Time and the sweep pointer advance by 1, the period count starts again with the stored divisor
(the divisor of the period under way is state of its own, log entry 17);
the flows of the slot for the new Pace Time whose X equals it go to the tails of their ready lists in their order, the others keep
their places; the flow that the pointer named has D set to now when it is 65536 or more ticks behind; nothing else changes.
CALENDAR_SERVICE is such a tick when it moves a flow, and otherwise does not take place (log entry 5). -/
def Obligations.TickServicesTheCalendarAndTheSweep : Prop :=
  ∀ s : State, s.resetHeld = false →
    (∃ t, exec .tick s = .next t ∧
      t = { s with flows := t.flows, calendar := t.calendar, ready := t.ready, time := t.time } ∧
      t.time = { divisor := s.time.divisor, period := s.time.divisor, count := 0, now := s.time.now + 1,
                 sweep := s.time.sweep + 1 } ∧
      t.calendarSlot (slotIndex t.time.now)
        = (s.calendarSlot (slotIndex t.time.now)).filter (fun f => (s.flow f).eligible ≠ t.time.now) ∧
      (∀ i, i ≠ slotIndex t.time.now → t.calendarSlot i = s.calendarSlot i) ∧
      (∀ p q, t.readyList p q = s.readyList p q ++ (s.calendarSlot (slotIndex t.time.now)).filter fun f =>
        (s.flow f).eligible = t.time.now ∧ (s.flow f).egressPort = p ∧ (s.flow f).priority = q) ∧
      (∀ f, (s.tickMoves f → (t.flow f).sched = .ready) ∧
        (¬ s.tickMoves f → (t.flow f).sched = (s.flow f).sched) ∧
        (s.tickRebases f → (t.flow f).due = t.time.now) ∧
        (¬ s.tickRebases f → (t.flow f).due = (s.flow f).due) ∧
        t.flow f = { s.flow f with sched := (t.flow f).sched, due := (t.flow f).due })) ∧
    ((∃ f, s.tickMoves f) → exec .calendarService s = exec .tick s) ∧
    ((∀ f, ¬ s.tickMoves f) → exec .calendarService s = .next s)

/-! ## Reception -/

/-- A cell received at an UP port whose check fails is discarded: HeaderErrors rises by 1, HEADER_ERRORS is posted with the port as
subject, and nothing else changes, whatever the cell's fields claim (R112). -/
def Obligations.BadHeaderIsCountedAndReported : Prop :=
  ∀ (p : Port) (cell : List Byte) (s : State), cell.length = 32 → (s.port p).link = .up →
    crc8 (Cell.ofBytes cell).top ≠ (Cell.ofBytes cell).check →
    ∃ t, exec (.arrival p cell) s = .next t ∧ t = { s with counters := t.counters, notices := t.notices } ∧
      (∀ f, t.flowCounters f = s.flowCounters f) ∧ t.portCounters (otherPort p) = s.portCounters (otherPort p) ∧
      t.portCounters p = { s.portCounters p with headerErrors := (s.portCounters p).headerErrors + 1 } ∧
      t.notices = s.notices.post (.headerErrors p) s.time.now .none

/-- A received cell with a good header, by its kind, channel and port (R113, R114): IDLE is ignored; a misdirected cell counts
Received and Misdirected; a management cell on Port T, channel 1023 counts Received and joins the Request Queue, or RequestsDropped
when the queue holds 4; a user cell counts Received, and Unmapped where its Active entry is NONE, and goes to admission for the
flow that the entry names otherwise (R54). A DOWN port has no arrivals (R111), so that an ARRIVAL there changes nothing (DEDUCED, log
entry 8). -/
def Obligations.ReceivedCellsAreClassified : Prop :=
  ∀ (p : Port) (cell : List Byte) (s : State),
    ((s.port p).link = .down → exec (.arrival p cell) s = .next s) ∧
    (cell.length = 32 → (s.port p).link = .up → crc8 (Cell.ofBytes cell).top = (Cell.ofBytes cell).check →
      let c := Cell.ofBytes cell
      let counted (g : PortCounters) : PortCounters := { g with received := g.received + 1 }
      (c.kind = .idle → exec (.arrival p cell) s = .next s) ∧
      ((c.kind = .management ∧ (p = .F ∨ c.channel.toNat ≠ 1023)) ∨
          ((c.kind = .user ∨ c.kind = .userDe) ∧ c.channel.toNat = 1023) →
        exec (.arrival p cell) s = .next (s.setPortCounters p
          { counted (s.portCounters p) with misdirected := (s.portCounters p).misdirected + 1 })) ∧
      (c.kind = .management → p = .T → c.channel.toNat = 1023 → s.mgmt.requests.length < 4 →
        exec (.arrival p cell) s = .next { s.setPortCounters p (counted (s.portCounters p)) with
          mgmt := { s.mgmt with requests := s.mgmt.requests ++ [c.payload] } }) ∧
      (c.kind = .management → p = .T → c.channel.toNat = 1023 → 4 ≤ s.mgmt.requests.length →
        exec (.arrival p cell) s = .next (s.setPortCounters p
          { counted (s.portCounters p) with requestsDropped := (s.portCounters p).requestsDropped + 1 })) ∧
      (∀ ch : UserChannel, c.kind = .user ∨ c.kind = .userDe → c.channel.toNat = ch.val →
        (s.map.activeBank.entry p ch = none →
          exec (.arrival p cell) s = .next (s.setPortCounters p
            { counted (s.portCounters p) with unmapped := (s.portCounters p).unmapped + 1 })) ∧
        (∀ f, s.map.activeBank.entry p ch = some f →
          exec (.arrival p cell) s = .next ((s.setPortCounters p (counted (s.portCounters p))).deliver f
            { de := decide (c.kind = .userDe), carry := c.carry, label := c.label, payload := c.payload }))))

/-- The judgement of an arrival at time t (R4, R5): under the POLICE modes CONFORMING when t is not before D − T and NONCONFORMING
when it is before; UNJUDGED under PASS and PACE.
The due-time update at time t (R3): D becomes max(D, t) in the modular order plus P + 1 when k < E and P otherwise; k becomes
(k + 1) mod C; nothing else changes. -/
def Obligations.JudgementAndDueTimeUpdate : Prop :=
  (∀ (r : FlowRecord) (t : Stamp),
     ((r.active.mode = .policeTag ∨ r.active.mode = .policeDrop) →
       (r.judge t = .conforming ↔ (t - (r.due - r.active.tolerance.setWidth 24)).toNat < 2 ^ 23) ∧
       (r.judge t = .nonconforming ↔ 2 ^ 23 ≤ (t - (r.due - r.active.tolerance.setWidth 24)).toNat)) ∧
     ((r.active.mode = .pass ∨ r.active.mode = .pace) → r.judge t = .unjudged)) ∧
  (∀ (r : FlowRecord) (t : Stamp),
     r.dueUpdate t = { r with
       due := (if (r.due - t).toNat < 2 ^ 23 then r.due else t) +
         (if r.cyclePos < r.active.extension then r.active.period.setWidth 24 + 1 else r.active.period.setWidth 24)
       cyclePos := (r.cyclePos + 1) % r.active.cycle })

/-- Admission, steps 1 to 4 (R71 to R75): the first step that discards decides, with its counter, its notice and its outcome, and
nothing else changes. A queue above its limit, which no run reaches, discards as a full one does (log entry 13). -/
def Obligations.AdmissionDiscardsInOrder : Prop :=
  ∀ (s : State) (f : FlowNo) (c : StoredCell),
    let r := s.flow f
    let late := (r.active.mode = .policeTag ∨ r.active.mode = .policeDrop) ∧
      2 ^ 23 ≤ (s.time.now - (r.due - r.active.tolerance.setWidth 24)).toNat
    let de := c.de = true ∨ (r.active.mode = .policeTag ∧ late)
    let shed := ∃ l, (s.buffer.level l).raised = true ∧
      (((s.buffer.level l).action = .shedDe ∧ de) ∨ ∃ q, (s.buffer.level l).action = .shedBelow q ∧ q < r.priority)
    let dropped := s.setFlowCounters f { s.flowCounters f with dropped := (s.flowCounters f).dropped + 1 }
    (r.active.mode = .policeDrop → late → s.admission f c = .discardedPolice ∧
      s.admitCell f c = s.setFlowCounters f { s.flowCounters f with policed := (s.flowCounters f).policed + 1 }) ∧
    (¬ (r.active.mode = .policeDrop ∧ late) → shed → s.admission f c = .discardedShed ∧ s.admitCell f c = dropped) ∧
    (¬ (r.active.mode = .policeDrop ∧ late) → ¬ shed → r.queueLimit ≤ r.queue.length →
      s.admission f c = .discardedQueue ∧
      s.admitCell f c = { dropped with notices := s.notices.post (.queueFull f) s.time.now .none }) ∧
    (¬ (r.active.mode = .policeDrop ∧ late) → ¬ shed → r.queue.length < r.queueLimit → s.buffer.occupancy = 1024 →
      s.admission f c = .discardedPool ∧
      s.admitCell f c = { dropped with notices := s.notices.post .poolFull s.time.now .none }) ∧
    (¬ (r.active.mode = .policeDrop ∧ late) → ¬ shed → r.queue.length < r.queueLimit → s.buffer.occupancy ≠ 1024 →
      s.admission f c = .queued)

/-- Admission, step 5 (R76, R77): the cell, with its mark, takes a free slot, the head of the free list (the model's choice, log
entry 3), that joins the tail of the flow's queue; the peak
follows O; Accepted rises, and Tagged when POLICE_TAG gave the mark; a CONFORMING cell makes the due-time update, with the promotion
of a cycle boundary; a flow whose queue was empty is placed, one whose contract was promoted is placed by R17, and any other keeps
its place; the levels that O reaches rise. CONTRACT_PROMOTED is posted before WATERMARK_UP. Other flows are as they were. -/
def Obligations.EnqueueStoresUpdatesAndPlaces : Prop :=
  ∀ (s : State) (f : FlowNo) (c : StoredCell) (slot : SlotNo) (rest : List SlotNo),
    s.admission f c = .queued → s.buffer.freeList = slot :: rest → (s.flow f).StandsRight →
    let r := s.flow f
    let conforming := r.judge s.time.now = .conforming
    let gave := r.active.mode = .policeTag ∧ r.judge s.time.now = .nonconforming ∧ c.de = false
    let stored : CellBuffer := { s.buffer with
      slots := s.buffer.slots.set slot.val { c with de := c.de || decide gave } slot.isLt
      freeList := rest
      peak := max s.buffer.peak (1024 - rest.length) }
    let joined : FlowRecord := { r with queue := r.queue ++ [slot] }
    let after : FlowRecord := if conforming then joined.updated s.time.now else joined
    let placed := r.queue = [] ∨ (conforming ∧ r.atBoundary = true)
    let final : FlowRecord := if placed then after.filed s.time.now else after
    let moved := placed ∧ ¬ (final.sched = r.sched ∧ (final.sched = .waiting → final.eligible = r.eligible))
    ∃ t, s.admitCell f c = t ∧
      t = { s with flows := t.flows, buffer := t.buffer, calendar := t.calendar, ready := t.ready, notices := t.notices,
                   counters := t.counters } ∧
      t.flows = s.flows.set f.val final f.isLt ∧
      t.buffer = stored.withRaised (fun l => (s.buffer.level l).raised || stored.rises l) ∧
      t.notices = s.notices.postAll s.time.now
        ((if conforming then r.boundaryPostings f else []) ++ risePostings stored.rises) ∧
      (∀ p, t.portCounters p = s.portCounters p) ∧ (∀ g, g ≠ f → t.flowCounters g = s.flowCounters g) ∧
      t.flowCounters f = { s.flowCounters f with
        accepted := (s.flowCounters f).accepted + 1
        tagged := if gave then (s.flowCounters f).tagged + 1 else (s.flowCounters f).tagged } ∧
      (moved → Refiled s t f) ∧ (¬ moved → Unmoved s t)

/-- The capture that follows an admission (R187), on the state that the admission leaves: with the probe ARMED on the flow, an entry
with the interval (saturating at 65535), the verdict and the outcome joins the list, the last stamp becomes now, and the entry that
reaches the target count makes the probe DONE and posts PROBE_DONE (COMPLETE). A probe that is not ARMED on the flow is untouched. -/
def Obligations.ProbeCapturesEachAdmission : Prop :=
  ∀ (s : State) (f : FlowNo) (c : StoredCell),
    let u := s.admitCell f c
    let interval := (s.time.now - s.probe.lastStamp).toNat
    let entry : ProbeEntry := { interval := if interval < 65535 then BitVec.ofNat 16 interval else 65535
                                verdict := (s.flow f).judge s.time.now
                                outcome := s.admission f c }
    (¬ (s.probe.state = .armed ∧ s.probe.flow = f) → s.deliver f c = u) ∧
    (s.probe.state = .armed → s.probe.flow = f → s.probe.entries.length + 1 < s.probe.target →
      s.deliver f c = { u with probe := { s.probe with lastStamp := s.time.now, entries := s.probe.entries ++ [entry] } }) ∧
    (s.probe.state = .armed → s.probe.flow = f → s.probe.target ≤ s.probe.entries.length + 1 →
      s.deliver f c = { u with
        probe := { s.probe with state := .done, lastStamp := s.time.now, entries := s.probe.entries ++ [entry] }
        notices := u.notices.post (.probeDone f) s.time.now .complete })

/-- PROBE_COMPLETION is the arrival whose capture reaches the target count: the probe ends DONE, holding one entry more, with its
last stamp at now. Any other arrival makes no such event (log entry 5): one at a DOWN port, one that hands nothing to admission, one
to a flow that the probe is not ARMED on, and one after which an entry is still wanting. -/
def Obligations.ProbeCompletionIsTheLastCapture : Prop :=
  ∀ (p : Port) (cell : List Byte) (s : State),
    (∀ (f : FlowNo) (c : StoredCell), HandsOver s p cell f c → s.probe.state = .armed → s.probe.flow = f →
      s.probe.target ≤ s.probe.entries.length + 1 →
      exec (.probeCompletion p cell) s = exec (.arrival p cell) s ∧
      ∃ t, exec (.probeCompletion p cell) s = .next t ∧ t.probe.state = .done ∧ t.probe.flow = f ∧
        t.probe.target = s.probe.target ∧ t.probe.lastStamp = s.time.now ∧
        ∃ e, t.probe.entries = s.probe.entries ++ [e]) ∧
    ((s.port p).link = .down → exec (.probeCompletion p cell) s = .next s) ∧
    ((∀ f c, HandsOver s p cell f c →
        s.probe.state ≠ .armed ∨ s.probe.flow ≠ f ∨ s.probe.entries.length + 1 < s.probe.target) →
      exec (.probeCompletion p cell) s = .next s)

/-! ## Promotions -/

/-- CYCLE_BOUNDARY_PROMOTION (R18) on a slot: the departure of a PACE flow with a pending contract whose update brings k back to 0
makes that contract active with k 0, and D is the updated one. A slot of a DOWN port, and one that sends no cell of a PACE flow with
a contract pending at the last position of its cycle, makes no such event (log entry 5).
CYCLE_BOUNDARY_PROMOTION (R18) on an arrival: the CONFORMING cell that is enqueued on a POLICE flow with a pending contract and
whose update brings k back to 0 makes that contract active with k 0, and D is the updated one. An arrival at a DOWN port, one that
hands nothing to admission, and one that is not enqueued, is not CONFORMING, finds no contract pending or leaves the flow within its
cycle, makes no such event (log entry 5). -/
def Obligations.CycleBoundaryPromotes : Prop :=
  (∀ (s : State) (p : Port),
     (∀ (q : Priority) (f : FlowNo) (c : Contract) (slot : SlotNo) (rest : List SlotNo),
       (s.port p).link = .up → s.slotChoice p = .departure q f → (s.flow f).queue = slot :: rest →
       (s.flow f).active.mode = .pace → ((s.flow f).cyclePos + 1) % (s.flow f).active.cycle = 0 → (s.flow f).pending = some c →
       exec (.cycleBoundaryPromotion (.slot p)) s = exec (.egressSlot p) s ∧
       ∃ t, exec (.cycleBoundaryPromotion (.slot p)) s = .next t ∧ (t.flow f).active = c ∧ (t.flow f).pending = none ∧
         (t.flow f).cyclePos = 0 ∧ (t.flow f).due = ((s.flow f).dueUpdate s.time.now).due) ∧
     ((s.port p).link = .down → exec (.cycleBoundaryPromotion (.slot p)) s = .next s) ∧
     ((∀ q f, s.slotChoice p = .departure q f → (s.flow f).queue = [] ∨ (s.flow f).active.mode ≠ .pace ∨
         (s.flow f).pending = none ∨ ((s.flow f).cyclePos + 1) % (s.flow f).active.cycle ≠ 0) →
       exec (.cycleBoundaryPromotion (.slot p)) s = .next s)) ∧
  (∀ (s : State) (p : Port) (cell : List Byte),
     (∀ (f : FlowNo) (c : StoredCell) (d : Contract), HandsOver s p cell f c → s.admission f c = .queued →
       (s.flow f).judge s.time.now = .conforming → ((s.flow f).cyclePos + 1) % (s.flow f).active.cycle = 0 →
       (s.flow f).pending = some d →
       exec (.cycleBoundaryPromotion (.arrival p cell)) s = exec (.arrival p cell) s ∧
       ∃ t, exec (.cycleBoundaryPromotion (.arrival p cell)) s = .next t ∧ (t.flow f).active = d ∧ (t.flow f).pending = none ∧
         (t.flow f).cyclePos = 0 ∧ (t.flow f).due = ((s.flow f).dueUpdate s.time.now).due) ∧
     ((s.port p).link = .down → exec (.cycleBoundaryPromotion (.arrival p cell)) s = .next s) ∧
     ((∀ f c, HandsOver s p cell f c → s.admission f c ≠ .queued ∨ (s.flow f).judge s.time.now ≠ .conforming ∨
         (s.flow f).pending = none ∨ ((s.flow f).cyclePos + 1) % (s.flow f).active.cycle ≠ 0) →
       exec (.cycleBoundaryPromotion (.arrival p cell)) s = .next s))

/-- The promotion of SET_CONTRACT and COMMIT_CONTRACT (R16, R17): the pending contract becomes active and absent, k becomes 0, D is
kept, and the flow is placed by its queue, its lifecycle state and the new contract, keeping its place in its structure when neither
its scheduling state nor its X has changed. -/
def Obligations.PromotionReplacesAndReschedules : Prop :=
  ∀ (s : State) (f : FlowNo) (c : Contract), (s.flow f).pending = some c → (s.flow f).StandsRight →
    let r := s.flow f
    let final := ({ r with active := c, pending := none, cyclePos := 0 } : FlowRecord).filed s.time.now
    let kept := final.sched = r.sched ∧ (final.sched = .waiting → final.eligible = r.eligible)
    ∃ t, s.promoteNow f = t ∧ t = { s with flows := t.flows, calendar := t.calendar, ready := t.ready } ∧
      t.flows = s.flows.set f.val final f.isLt ∧ (kept → Unmoved s t) ∧ (¬ kept → Refiled s t f)

/-! ## Egress -/

/-- A slot that carries a response (R94), whose payload is its tag, its request code, its status code and its 25 data bytes (R193),
or, with nothing else to send, IDLE (R96). A DOWN port has no slots (R93, R101), so that EGRESS_SLOT there changes nothing (DEDUCED,
log entry 8). -/
def Obligations.SlotCarriesResponseOrIdle : Prop :=
  (∀ (s : State) (x : Response) (rest : List Response), s.portT.link = .up → s.mgmt.responses = x :: rest →
    exec (.egressSlot .T) s = .next { s with
      portT := { s.portT with tx := some (buildCell 1023 .management 0 0
        (payloadOf ([x.tag, x.code, byteOf x.status.code] ++ x.data.toList))) }
      mgmt := { s.mgmt with responses := rest }
      counters := { s.counters with portT := { s.counters.portT with sent := s.counters.portT.sent + 1 } } }) ∧
  (∀ (s : State) (p : Port), (s.port p).link = .up → (∀ q, s.readyList p q = []) →
    (p = .T → s.mgmt.responses = [] ∧ (s.notices.records = [] ∨ s.notices.credit = 0)) →
    exec (.egressSlot p) s = .next (s.setPort p { s.port p with
      tx := some (buildCell 0 .idle 0 0 (Vector.replicate 28 0)) })) ∧
  (∀ (s : State) (p : Port), (s.port p).link = .down → exec (.egressSlot p) s = .next s)

/-- A Port T slot with no response queued, a record queued and credit carries a notice (R95, R174, R175): the oldest record of the
most severe severity queued; the record leaves the queue, the credit falls by 1, the sequence number rises by 1 and is in the cell,
and Port T's Sent rises by 1. -/
def Obligations.SlotCarriesTheMostSevereOldestNotice : Prop :=
  ∀ (s : State) (before : List NoticeRecord) (x : NoticeRecord) (behind : List NoticeRecord),
    s.portT.link = .up → s.mgmt.responses = [] → 0 < s.notices.credit → s.notices.records = before ++ x :: behind →
    (∀ y ∈ before, x.severity.code < y.severity.code) → (∀ y ∈ behind, x.severity.code ≤ y.severity.code) →
    exec (.egressSlot .T) s = .next { s with
      portT := { s.portT with tx := some (buildCell 1023 .management 0 0 (payloadOf
        ([s.notices.seq, 0x80, byteOf x.what.code, byteOf x.severity.code, byteOf x.what.subjectCode, byteOf x.count]
          ++ bytes3 x.stamp ++ [byteOf x.detail.code]))) }
      notices := { s.notices with records := before ++ behind, credit := s.notices.credit - 1, seq := s.notices.seq + 1 }
      counters := { s.counters with portT := { s.counters.portT with sent := s.counters.portT.sent + 1 } } }

/-- The departure of a user cell (R97, R98): with nothing ahead of the ready lists, the head flow of the lowest-numbered non-empty
list sends its oldest cell; the slot returns to the free list, at its tail (the model's choice, log entry 3), and the levels that O
falls below by more than H are cleared; both
Sent counters rise; a PACE flow makes its due-time update, with the promotion of a cycle boundary; the flow is placed anew, and a
DRAINING flow whose queue is empty becomes UNUSED with FLOW_CLOSED (DRAINED). Postings come in that order. -/
def Obligations.DepartureSendsReturnsAndReplaces : Prop :=
  ∀ (s : State) (p : Port) (q : Priority) (f : FlowNo) (l : List FlowNo) (slot : SlotNo) (rest : List SlotNo),
    (s.port p).link = .up →
    (p = .T → s.mgmt.responses = [] ∧ (s.notices.records = [] ∨ s.notices.credit = 0)) →
    (∀ j, j < q → s.readyList p j = []) → s.readyList p q = f :: l → (s.flow f).queue = slot :: rest →
    (s.flow f).sched = .ready → (s.flow f).egressPort = p → (s.flow f).priority = q →
    (s.flow f).lifecycle = .opened ∨ (s.flow f).lifecycle = .draining →
    let r := s.flow f
    let cell := s.buffer.slots.get slot
    let back : CellBuffer := { s.buffer with freeList := s.buffer.freeList ++ [slot] }
    let left : FlowRecord := { r with queue := rest }
    let paced : FlowRecord := if r.active.mode = .pace then left.updated s.time.now else left
    let ended := rest = [] ∧ r.lifecycle = .draining
    ∃ t, exec (.egressSlot p) s = .next t ∧
      t = { s with portT := t.portT, portF := t.portF, flows := t.flows, buffer := t.buffer, calendar := t.calendar,
                   ready := t.ready, notices := t.notices, counters := t.counters } ∧
      t.port (otherPort p) = s.port (otherPort p) ∧
      t.port p = { s.port p with tx := some (buildCell (BitVec.ofNat 10 r.egressChannel.val)
        (if cell.de then .userDe else .user) cell.carry cell.label cell.payload) } ∧
      t.flows = s.flows.set f.val
        (if ended then { paced with sched := .empty, lifecycle := .unused } else paced.filed s.time.now) f.isLt ∧
      t.buffer = back.withRaised (fun k => (s.buffer.level k).raised && !back.falls k) ∧
      t.notices = s.notices.postAll s.time.now (fallPostings back.falls
        ++ (if r.active.mode = .pace then r.boundaryPostings f else [])
        ++ (if ended then [(.flowClosed f, .drained)] else [])) ∧
      t.portCounters p = { s.portCounters p with sent := (s.portCounters p).sent + 1 } ∧
      t.portCounters (otherPort p) = s.portCounters (otherPort p) ∧
      (∀ g, g ≠ f → t.flowCounters g = s.flowCounters g) ∧
      t.flowCounters f = { s.flowCounters f with sent := (s.flowCounters f).sent + 1 } ∧
      Refiled s t f

/-- DRAIN_COMPLETION (R35) is the slot whose departure empties a DRAINING flow's queue: the flow ends EMPTY and UNUSED. A slot of a
DOWN port, and one that does not send the one cell left of a DRAINING flow, makes no such event (log entry 5): a DRAINING flow with
two cells or more is left DRAINING by its slot. -/
def Obligations.DrainCompletionClosesTheFlow : Prop :=
  ∀ (s : State) (p : Port),
    (∀ (q : Priority) (f : FlowNo) (slot : SlotNo), (s.port p).link = .up → s.slotChoice p = .departure q f →
      (s.flow f).queue = [slot] → (s.flow f).lifecycle = .draining →
      exec (.drainCompletion p) s = exec (.egressSlot p) s ∧
      ∃ t, exec (.drainCompletion p) s = .next t ∧ (t.flow f).lifecycle = .unused ∧ (t.flow f).sched = .empty ∧
        (t.flow f).queue = []) ∧
    ((s.port p).link = .down → exec (.drainCompletion p) s = .next s) ∧
    ((∀ q f, s.slotChoice p = .departure q f → (s.flow f).lifecycle ≠ .draining ∨ (s.flow f).queue.length ≠ 1) →
      exec (.drainCompletion p) s = .next s)

/-- Whenever a slot sends a cell of a flow whose active mode is PACE, the Pace Time is not before D − T of that flow (R11). -/
def Obligations.NoPaceDepartureIsEarly : Prop :=
  ∀ (s : State) (p : Port) (f : FlowNo), SchedulingLaw s → s.departing p = some f → (s.flow f).active.mode = .pace →
    (s.time.now - ((s.flow f).due - (s.flow f).active.tolerance.setWidth 24)).toNat < 2 ^ 23

/-! ## Cells -/

/-- A cell as the transmitter builds it is 32 bytes, passes the check, and reads back with every field it was built from, at every
value (R109, R110, R116, R192). -/
def Obligations.BuiltCellsReadBack : Prop :=
  ∀ (ch : Channel) (k : Kind) (carry : BitVec 4) (label : Byte) (payload : Payload),
    let c := buildCell ch k carry label payload
    c.bytes.length = 32 ∧ Cell.ofBytes c.bytes = c ∧ c.good = true ∧ c.channel = ch ∧ c.kind = k ∧ c.carry = carry ∧
      c.label = label ∧ c.payload = payload

/-- The check (R110): the three values the spec lists; it is linear; and a change of any one bit of a good header is found. -/
def Obligations.CheckFindsSingleBitErrors : Prop :=
  (crc8 0x000000 = 0x00 ∧ crc8 0x000001 = 0x07 ∧ crc8 0x010000 = 0x6B) ∧
  (∀ a b : BitVec 24, crc8 (a ^^^ b) = crc8 a ^^^ crc8 b) ∧
  (∀ (c : Cell) (i : Fin 32), c.good = true → ({ c with header := c.header ^^^ (1#32 <<< i.val) } : Cell).good = false)

/-! ## The Management Engine -/

/-- Tag sequencing (R131, R134, R135): a SYNC, and a request with tag Q, is executed: one response with its tag and code is appended
and cached, and Q becomes the tag plus 1. Otherwise a request with tag Q − 1 while the cache is valid has the cached response
appended, and any other has SEQUENCE with data Q; neither changes anything else. After power-on Q is 0 and the cache is invalid. -/
def Obligations.TagSequencingTable : Prop :=
  (∀ (s : State) (r : Payload) (rest : List Payload), Takes s r rest →
    (requestCode r = 0x01 ∨ requestTag r = s.mgmt.expected →
      ∃ t x, exec (rowOf (requestCode r)) s = .next t ∧ x.tag = requestTag r ∧ x.code = requestCode r ∧
        t.mgmt = { requests := rest, responses := s.mgmt.responses ++ [x], expected := requestTag r + 1, cache := some x }) ∧
    (∀ x, requestCode r ≠ 0x01 → requestTag r ≠ s.mgmt.expected → requestTag r = s.mgmt.expected - 1 →
      s.mgmt.cache = some x →
      exec (rowOf (requestCode r)) s = .next { s with mgmt := s.mgmt.repeated rest x }) ∧
    (requestCode r ≠ 0x01 → requestTag r ≠ s.mgmt.expected →
      ¬ (requestTag r = s.mgmt.expected - 1 ∧ s.mgmt.cache ≠ none) →
      exec (rowOf (requestCode r)) s = .next { s with mgmt := (s.mgmt.repeated rest
        { tag := requestTag r, code := requestCode r, status := .sequence, data := dataOf [s.mgmt.expected] }) })) ∧
  State.reset.mgmt.expected = 0 ∧ State.reset.mgmt.cache = none

/-- A request answered with a refusal changes nothing but the Management Engine, whichever request it is (R132).
UNKNOWN_REQUEST (R132, R196): a request whose code is outside 0x01..0x16 is executed with tag Q and answered BAD_REQUEST with no
data, its parameters not read; nothing else changes. -/
def Obligations.RefusalsAndUnknownRequestsChangeNothing : Prop :=
  (∀ (i : Instr) (s t : State) (x : Response), isRequestRow i = true → exec i s = .next t →
     t.mgmt.responses = s.mgmt.responses ++ [x] → x.status ≠ .ok → x.status ≠ .accepted → t = { s with mgmt := t.mgmt }) ∧
  (∀ (s : State) (r : Payload) (rest : List Payload) (code : Byte), Executes s code r rest → code = 0x00 ∨ 0x16 < code.toNat →
     exec .unknownRequest s = .next { s with mgmt := s.mgmt.answered r rest .badRequest [] })

/-- No request is taken while the Response Queue holds 4 responses or the Request Queue is empty (R128, R130), and a row takes no
request of another code (log entry 1). -/
def Obligations.NothingIsTakenWithoutRoom : Prop :=
  ∀ (i : Instr) (s : State), isRequestRow i = true →
    (4 ≤ s.mgmt.responses.length → exec i s = .next s) ∧
    (s.mgmt.requests = [] → exec i s = .next s) ∧
    (∀ r rest, s.mgmt.requests = r :: rest → rowOf (requestCode r) ≠ i → exec i s = .next s)

/-- The fields, numbers and code values of a request as its checks read them, and the code values and byte orders of what the part
sends (R2, R141, R168, R192 to R196): where the tag, the code and the parameters stand; the numbers, contracts and enumerations and
which value each code names; the code of each value that responses and notices carry; the bytes of a field, of a payload and of
response data. -/
def Obligations.RequestParametersAreReadAsListed : Prop :=
  (∀ r : Payload, requestTag r = r[0] ∧ requestCode r = r[1] ∧ ∀ (n : Nat) (h : 2 + n < 28), param r n = r[2 + n]) ∧
  (∀ (w : BitVec 16) (f : FlowNo), flowOf w = some f ↔ w.toNat = f.val) ∧
  (∀ w : BitVec 16, flowOf w = none ↔ 255 < w.toNat) ∧
  (∀ (w : BitVec 16) (c : UserChannel), channelOf w = some c ↔ w.toNat = c.val) ∧
  (∀ w : BitVec 16, channelOf w = none ↔ 1022 < w.toNat) ∧
  (∀ (b : Byte) (q : Priority), priorityOf b = some q ↔ b.toNat = q.val) ∧
  (∀ (r : Payload) (n : Nat), (param2 r n).toNat = (param r n).toNat * 256 + (param r (n + 1)).toNat) ∧
  (∀ (r : Payload) (n : Nat) (c : Contract), contractOf r n = some c ↔
    modeOf (param r n) = some c.mode ∧ param2 r (n + 1) = c.period ∧ (param r (n + 3)).toNat = c.cycle ∧
      (param r (n + 4)).toNat = c.extension ∧ param2 r (n + 5) = c.tolerance ∧
      2 ≤ c.period.toNat ∧ 1 ≤ c.cycle ∧ c.cycle ≤ 16 ∧ c.extension < c.cycle) ∧
  (portOf 0 = some .T ∧ portOf 1 = some .F ∧ ∀ b : Byte, portOf b = none ↔ 1 < b.toNat) ∧
  (modeOf 0 = some .pass ∧ modeOf 1 = some .policeTag ∧ modeOf 2 = some .policeDrop ∧ modeOf 3 = some .pace ∧
    ∀ b : Byte, modeOf b = none ↔ 3 < b.toNat) ∧
  (optionOf 0 = some false ∧ optionOf 1 = some true ∧ ∀ b : Byte, optionOf b = none ↔ 1 < b.toNat) ∧
  (viewOf 0 = some .status ∧ viewOf 1 = some .pending ∧ viewOf 2 = some .counters ∧
    ∀ b : Byte, viewOf b = none ↔ 2 < b.toNat) ∧
  (∀ c : Byte, actionOf 0 c = some .noticeOnly ∧ actionOf 1 c = some .shedDe ∧
    (∀ q : Priority, actionOf 2 c = some (.shedBelow q) ↔ c.toNat = q.val) ∧
    ∀ b : Byte, actionOf b c = none ↔ 2 < b.toNat ∨ (b = 2 ∧ 7 < c.toNat)) ∧
  (mapValueOf 0xFFFF = some none ∧ (∀ (w : BitVec 16) (f : FlowNo), mapValueOf w = some (some f) ↔ w.toNat = f.val) ∧
    ∀ w : BitVec 16, mapValueOf w = none ↔ 255 < w.toNat ∧ w.toNat < 65535) ∧
  ((∀ (w : BitVec 16) (m : BitVec 11), maskOf w = some m ↔ w = m.setWidth 16) ∧
    ∀ w : BitVec 16, maskOf w = none ↔ 2047 < w.toNat) ∧
  ([Port.T, .F].map portCode = [0, 1] ∧ [Link.down, .up].map Link.code = [0, 1] ∧
    [Mode.pass, .policeTag, .policeDrop, .pace].map Mode.code = [0, 1, 2, 3] ∧
    [Lifecycle.unused, .opened, .suspended, .draining].map Lifecycle.code = [0, 1, 2, 3] ∧
    [Sched.empty, .ready, .waiting, .held].map Sched.code = [0, 1, 2, 3] ∧ [BankId.A, .B].map BankId.code = [0, 1] ∧
    [ProbeState.idle, .armed, .done, .aborted].map ProbeState.code = [0, 1, 2, 3] ∧
    [Verdict.conforming, .nonconforming, .unjudged].map Verdict.code = [0, 1, 2] ∧
    [Admission.queued, .discardedPolice, .discardedShed, .discardedQueue, .discardedPool].map Admission.code
      = [0, 1, 2, 3, 4] ∧
    [Status.ok, .accepted, .badRequest, .badIndex, .badValue, .state, .mapped, .busy, .sequence, .mapInvalid].map Status.code
      = [0, 1, 2, 3, 4, 5, 6, 7, 8, 9] ∧
    [Severity.urgent, .normal, .info].map Severity.code = [0, 1, 2] ∧
    [Detail.none, .drained, .flushed, .complete, .aborted].map Detail.code = [0, 1, 2, 3, 4] ∧
    [Level.one, .two, .three].map Level.number = [1, 2, 3] ∧
    [Kind.idle, .user, .userDe, .management].map Kind.code = [0, 1, 2, 3]) ∧
  (∀ (p : Port) (f : FlowNo) (l : Level),
    [Notice.poolFull, .linkDown p, .noticesLost, .queueFull f, .watermarkUp l, .headerErrors p, .flowClosed f, .linkUp p,
        .watermarkDown l, .contractPromoted f, .probeDone f].map (fun k => (k.code, k.severity, k.subjectCode))
      = [(1, .urgent, 0), (2, .urgent, portCode p), (3, .urgent, 0), (4, .normal, f.val), (5, .normal, l.number),
         (6, .normal, portCode p), (7, .normal, f.val), (8, .normal, portCode p), (9, .info, l.number), (10, .info, f.val),
         (11, .info, f.val)]) ∧
  ((∀ n : Nat, byteOf n = BitVec.ofNat 8 n) ∧
    (∀ w : BitVec 16, bytes2 w = [byteOf (w.toNat / 256), byteOf w.toNat]) ∧
    (∀ w : BitVec 24, bytes3 w = [byteOf (w.toNat / 65536), byteOf (w.toNat / 256), byteOf w.toNat]) ∧
    (∀ w : BitVec 32, bytes4 w
      = [byteOf (w.toNat / 16777216), byteOf (w.toNat / 65536), byteOf (w.toNat / 256), byteOf w.toNat]) ∧
    (∀ (l : List Byte) (i : Fin 28), (payloadOf l).get i = l.getD i.val 0) ∧
    (∀ (l : List Byte) (i : Fin 25), (dataOf l).get i = l.getD i.val 0))

/-- SYNC (R142) is executed whatever its tag: Q becomes its tag plus 1, and the response, cached, is OK with the part code, the
revision, the four capacities and the new Q. Nothing else changes.
READ_TIME (R143): OK with Pace Time and the stored divisor, nothing else changed; a READ_TIME with tag Q − 1 while the cache is
valid gets the cached response, with the stamp it was built with. -/
def Obligations.SyncAndReadTimeAnswer : Prop :=
  (∀ (s : State) (r : Payload) (rest : List Payload), Takes s r rest → requestCode r = 0x01 →
     exec .sync s = .next { s with mgmt := (s.mgmt.answered r rest .ok
       [0x02, 0x56, 1, 1, 0, 4, 0, 32, 4, 0, requestTag r + 1]) }) ∧
  ((∀ (s : State) (r : Payload) (rest : List Payload), Executes s 0x02 r rest →
     exec .readTime s = .next { s with mgmt := (s.mgmt.answered r rest .ok
       (bytes3 s.time.now ++ bytes2 (BitVec.ofNat 16 s.time.divisor))) }) ∧
   (∀ (s : State) (r : Payload) (rest : List Payload) (x : Response), Takes s r rest → requestCode r = 0x02 →
     requestTag r ≠ s.mgmt.expected → requestTag r = s.mgmt.expected - 1 → s.mgmt.cache = some x →
     exec .readTime s = .next { s with mgmt := s.mgmt.repeated rest x }))

/-- SET_TIMEBASE (R46, R144): N outside 1..4096 is BAD_VALUE; a flow that is not UNUSED makes it STATE; otherwise the new N is stored
for the periods that begin from the next tick on, and the response is OK with N. -/
def Obligations.SetTimebaseStoresTheDivisor : Prop :=
  ∀ (s : State) (r : Payload) (rest : List Payload), Executes s 0x03 r rest →
    let n := (param2 r 0).toNat
    (n < 1 ∨ 4096 < n → exec .setTimebase s = .next { s with mgmt := s.mgmt.answered r rest .badValue [] }) ∧
    (1 ≤ n → n ≤ 4096 → (∃ f, (s.flow f).lifecycle ≠ .unused) →
      exec .setTimebase s = .next { s with mgmt := s.mgmt.answered r rest .state [] }) ∧
    (1 ≤ n → n ≤ 4096 → (∀ f, (s.flow f).lifecycle = .unused) →
      exec .setTimebase s = .next { s with
        mgmt := s.mgmt.answered r rest .ok [param r 0, param r 1]
        time := { s.time with divisor := n } })

/-! ## Requests on flows -/

/-- OPEN_FLOW (R27, R145) on an UNUSED flow with parameters in range: the record is opened as the request says with D at now and k 0,
its six counters are zeroed, and the response is OK with D.
The refusals of OPEN_FLOW in the order of R145; each changes nothing but the Management Engine. -/
def Obligations.OpenFlowChecksAndOpens : Prop :=
  (∀ (s : State) (r : Payload) (rest : List Payload) (f : FlowNo) (p : Port) (ch : UserChannel) (q : Priority) (c : Contract),
     Executes s 0x04 r rest → flowOf (param2 r 0) = some f → channelOf (param2 r 3) = some ch → portOf (param r 2) = some p →
     priorityOf (param r 5) = some q → 1 ≤ (param r 6).toNat → (param r 6).toNat ≤ 64 → contractOf r 7 = some c →
     (s.flow f).lifecycle = .unused →
     exec .openFlow s = .next { s with
       mgmt := s.mgmt.answered r rest .ok (bytes3 s.time.now)
       flows := s.flows.set f.val
         { lifecycle := .opened, egressPort := p, egressChannel := ch, priority := q, queueLimit := (param r 6).toNat, active := c,
           pending := none, due := s.time.now, cyclePos := 0, sched := .empty, eligible := (s.flow f).eligible, queue := [] }
         f.isLt
       counters := { s.counters with flows := (s.counters.flows.set f.val
         { accepted := 0, tagged := 0, policed := 0, dropped := 0, sent := 0, flushed := 0 } f.isLt) } }) ∧
  (∀ (s : State) (r : Payload) (rest : List Payload), Executes s 0x04 r rest →
     let refused (st : Status) := exec .openFlow s = .next { s with mgmt := s.mgmt.answered r rest st [] }
     let bad := portOf (param r 2) = none ∨ priorityOf (param r 5) = none ∨ (param r 6).toNat < 1 ∨ 64 < (param r 6).toNat ∨
       contractOf r 7 = none
     (flowOf (param2 r 0) = none ∨ channelOf (param2 r 3) = none → refused .badIndex) ∧
     (flowOf (param2 r 0) ≠ none → channelOf (param2 r 3) ≠ none → bad → refused .badValue) ∧
     (∀ f, flowOf (param2 r 0) = some f → channelOf (param2 r 3) ≠ none → ¬ bad → (s.flow f).lifecycle ≠ .unused →
       refused .state))

/-- SET_CONTRACT and COMMIT_CONTRACT (R14, R19, R146, R147) on an OPEN or SUSPENDED flow. With k 0 SET_CONTRACT promotes the new
contract at once, OK with PROMOTED; with k not 0 it stores it pending, ACCEPTED with PENDING, or REPLACED where one was pending.
COMMIT_CONTRACT promotes the pending contract at once, OK. `promoteNow` is the promotion of R16 and R17. -/
def Obligations.ContractsAreSetAndCommitted : Prop :=
  ∀ (s : State) (r : Payload) (rest : List Payload) (f : FlowNo), flowOf (param2 r 0) = some f →
    (s.flow f).lifecycle = .opened ∨ (s.flow f).lifecycle = .suspended →
    (∀ c, Executes s 0x05 r rest → contractOf r 2 = some c →
      let stored := s.setFlow f { s.flow f with pending := some c }
      ((s.flow f).cyclePos = 0 →
        exec .setContract s = .next { stored.promoteNow f with mgmt := s.mgmt.answered r rest .ok [0] }) ∧
      ((s.flow f).cyclePos ≠ 0 → (s.flow f).pending = none →
        exec .setContract s = .next { stored with mgmt := s.mgmt.answered r rest .accepted [1] }) ∧
      ((s.flow f).cyclePos ≠ 0 → (s.flow f).pending ≠ none →
        exec .setContract s = .next { stored with mgmt := s.mgmt.answered r rest .accepted [2] })) ∧
    (Executes s 0x06 r rest → (s.flow f).pending ≠ none →
      exec .commitContract s = .next { s.promoteNow f with mgmt := s.mgmt.answered r rest .ok [] })

/-- The refusals of the requests on one flow, in the order of their checks (R146 to R151, R160): the flow number, then an option, the
reference count, the lifecycle state or the contract. Each changes nothing but the Management Engine. -/
def Obligations.FlowRequestsAreRefusedInOrder : Prop :=
  ∀ (s : State) (r : Payload) (rest : List Payload),
    let refused (i : Instr) (st : Status) := exec i s = .next { s with mgmt := s.mgmt.answered r rest st [] }
    (flowOf (param2 r 0) = none →
      (Executes s 0x05 r rest → refused .setContract .badIndex) ∧
      (Executes s 0x06 r rest → refused .commitContract .badIndex) ∧
      (Executes s 0x07 r rest → refused .suspendFlow .badIndex) ∧
      (Executes s 0x08 r rest → refused .resumeFlow .badIndex) ∧
      (Executes s 0x09 r rest → refused .closeFlow .badIndex) ∧
      (Executes s 0x0A r rest → refused .readFlow .badIndex)) ∧
    (∀ f, flowOf (param2 r 0) = some f →
      let live := (s.flow f).lifecycle = .opened ∨ (s.flow f).lifecycle = .suspended
      let option := (param r 2).toNat
      (Executes s 0x05 r rest → ¬ live → refused .setContract .state) ∧
      (Executes s 0x05 r rest → live → contractOf r 2 = none → refused .setContract .badValue) ∧
      (Executes s 0x06 r rest → ¬ live ∨ (s.flow f).pending = none → refused .commitContract .state) ∧
      (Executes s 0x07 r rest → (s.flow f).lifecycle ≠ .opened → refused .suspendFlow .state) ∧
      (Executes s 0x08 r rest → 1 < option → refused .resumeFlow .badValue) ∧
      (Executes s 0x08 r rest → option ≤ 1 → (s.flow f).lifecycle ≠ .suspended → refused .resumeFlow .state) ∧
      (Executes s 0x09 r rest → 1 < option → refused .closeFlow .badValue) ∧
      (Executes s 0x09 r rest → option ≤ 1 → 0 < s.refCount f → refused .closeFlow .mapped) ∧
      (Executes s 0x09 r rest → option = 0 → s.refCount f = 0 → (s.flow f).lifecycle ≠ .opened → refused .closeFlow .state) ∧
      (Executes s 0x09 r rest → option = 1 → s.refCount f = 0 → (s.flow f).lifecycle = .unused → refused .closeFlow .state) ∧
      (Executes s 0x0A r rest → 2 < option → refused .readFlow .badValue) ∧
      (Executes s 0x12 r rest → 1 ≤ option → option ≤ 8 → s.probe.state ≠ .armed → ¬ live → refused .startProbe .state))

/-- SUSPEND_FLOW (R28, R148) on an OPEN flow: SUSPENDED, out of its ready list or calendar slot, HELD when it has cells and EMPTY
when it has none; OK with the scheduling state and the queue length.
RESUME_FLOW (R29, R30, R20, R149) on a SUSPENDED flow: OPEN and placed by its queue and contract. KEEP keeps D, k and both
contracts; RESTART promotes a pending contract and makes D now and k 0. OK with the scheduling state, and X when WAITING. -/
def Obligations.SuspendAndResumePlaceTheFlow : Prop :=
  (∀ (s : State) (r : Payload) (rest : List Payload) (f : FlowNo), Executes s 0x07 r rest → flowOf (param2 r 0) = some f →
     (s.flow f).lifecycle = .opened →
     let x := s.flow f
     let sched : Sched := if x.queue = [] then .empty else .held
     ∃ t, exec .suspendFlow s = .next t ∧
       t = { s with mgmt := t.mgmt, flows := t.flows, calendar := t.calendar, ready := t.ready } ∧
       t.flows = s.flows.set f.val { x with lifecycle := .suspended, sched := sched } f.isLt ∧ Refiled s t f ∧
       t.mgmt = s.mgmt.answered r rest .ok [byteOf sched.code, byteOf x.queue.length]) ∧
  (∀ (s : State) (r : Payload) (rest : List Payload) (f : FlowNo), Executes s 0x08 r rest → flowOf (param2 r 0) = some f →
     (s.flow f).lifecycle = .suspended → (s.flow f).StandsRight →
     let x := s.flow f
     let restarted : FlowRecord := { x with
       lifecycle := .opened, active := x.pending.getD x.active, pending := none, due := s.time.now, cyclePos := 0 }
     let final : FlowRecord :=
       if param r 2 = 0 then ({ x with lifecycle := .opened } : FlowRecord).filed s.time.now else restarted.filed s.time.now
     (param r 2).toNat ≤ 1 → ∃ t, exec .resumeFlow s = .next t ∧
       t = { s with mgmt := t.mgmt, flows := t.flows, calendar := t.calendar, ready := t.ready } ∧
       t.flows = s.flows.set f.val final f.isLt ∧ Refiled s t f ∧
       t.mgmt = s.mgmt.answered r rest .ok
         (byteOf final.sched.code :: if final.sched = .waiting then bytes3 final.eligible else [0, 0, 0]))

/-- CLOSE_FLOW with DRAIN (R32, R33, R34, R150). A reference count above 0 is MAPPED. At 0, an OPEN flow with cells becomes DRAINING,
keeping its place, ACCEPTED with the queue length; one without becomes UNUSED, OK with 0. A pending contract is discarded, and a
probe ARMED on the flow is aborted with PROBE_DONE (ABORTED). -/
def Obligations.CloseWithDrain : Prop :=
  ∀ (s : State) (r : Payload) (rest : List Payload) (f : FlowNo), Executes s 0x09 r rest → flowOf (param2 r 0) = some f →
    param r 2 = 0 →
    let x := s.flow f
    let aborts := s.probe.state = .armed ∧ s.probe.flow = f
    let probe : Probe := if aborts then { s.probe with state := .aborted } else s.probe
    let notices := if aborts then s.notices.post (.probeDone f) s.time.now .aborted else s.notices
    (0 < s.refCount f → exec .closeFlow s = .next { s with mgmt := s.mgmt.answered r rest .mapped [] }) ∧
    (s.refCount f = 0 → x.lifecycle = .opened → x.queue ≠ [] → exec .closeFlow s = .next { s with
      mgmt := s.mgmt.answered r rest .accepted [byteOf x.queue.length]
      flows := s.flows.set f.val { x with lifecycle := .draining, pending := none } f.isLt
      probe := probe
      notices := notices }) ∧
    (s.refCount f = 0 → x.lifecycle = .opened → x.queue = [] → exec .closeFlow s = .next { s with
      mgmt := s.mgmt.answered r rest .ok [0]
      flows := s.flows.set f.val { x with lifecycle := .unused, pending := none } f.isLt
      probe := probe
      notices := notices })

/-- CLOSE_FLOW with FLUSH (R36, R79, R150) on an OPEN, SUSPENDED or DRAINING flow with reference count 0: out of its structure, its
slots back on the free list, the levels tested once when any slot came back, Flushed raised by the number of cells, EMPTY and
UNUSED, a pending contract discarded, a probe ARMED on it aborted, and FLOW_CLOSED (FLUSHED) posted when it was DRAINING; OK with the
number of cells. Two clauses are the model's: the slots join the tail of the free list in the order of the queue, where R68 calls the
list unordered (DESIGN CHOICE, log entry 3), and a flush of an empty queue makes no level test (DEDUCED, log entry 19). -/
def Obligations.CloseWithFlush : Prop :=
  ∀ (s : State) (r : Payload) (rest : List Payload) (f : FlowNo), Executes s 0x09 r rest → flowOf (param2 r 0) = some f →
    param r 2 = 1 → s.refCount f = 0 → (s.flow f).lifecycle ≠ .unused →
    let x := s.flow f
    let aborts := s.probe.state = .armed ∧ s.probe.flow = f
    let back : CellBuffer := { s.buffer with freeList := s.buffer.freeList ++ x.queue }
    let falls (k : Level) : Bool := decide (x.queue ≠ []) && back.falls k
    ∃ t, exec .closeFlow s = .next t ∧
      t = { s with mgmt := t.mgmt, flows := t.flows, calendar := t.calendar, ready := t.ready, buffer := t.buffer,
                   counters := t.counters, probe := t.probe, notices := t.notices } ∧
      t.mgmt = s.mgmt.answered r rest .ok [byteOf x.queue.length] ∧
      t.flows = s.flows.set f.val { x with lifecycle := .unused, sched := .empty, queue := [], pending := none } f.isLt ∧
      Refiled s t f ∧
      t.buffer = back.withRaised (fun k => (s.buffer.level k).raised && !falls k) ∧
      t.counters = { s.counters with flows := (s.counters.flows.set f.val
        { s.flowCounters f with flushed := (s.flowCounters f).flushed + BitVec.ofNat 32 x.queue.length } f.isLt) } ∧
      t.probe = (if aborts then { s.probe with state := .aborted } else s.probe) ∧
      t.notices = s.notices.postAll s.time.now (fallPostings falls
        ++ (if aborts then [(.probeDone f, .aborted)] else [])
        ++ (if x.lifecycle = .draining then [(.flowClosed f, .flushed)] else []))

/-- READ_FLOW (R151, R152, R194) changes nothing but the Management Engine, in any lifecycle state, and returns the view asked for. -/
def Obligations.ReadFlowReturnsTheView : Prop :=
  ∀ (s : State) (r : Payload) (rest : List Payload) (f : FlowNo), Executes s 0x0A r rest → flowOf (param2 r 0) = some f →
    let x := s.flow f
    let k := s.flowCounters f
    let contract (c : Contract) : List Byte :=
      [byteOf c.mode.code] ++ bytes2 c.period ++ [byteOf c.cycle, byteOf c.extension] ++ bytes2 c.tolerance
    (param r 2 = 0 → exec .readFlow s = .next { s with mgmt := (s.mgmt.answered r rest .ok
      ([byteOf x.lifecycle.code, byteOf x.sched.code, if x.pending = none then 0 else 1, byteOf (portCode x.egressPort)]
        ++ bytes2 (BitVec.ofNat 16 x.egressChannel.val)
        ++ [byteOf x.priority.val, byteOf x.queueLimit, byteOf x.queue.length] ++ bytes2 (BitVec.ofNat 16 (s.refCount f))
        ++ contract x.active ++ bytes3 x.due ++ [byteOf x.cyclePos] ++ bytes3 x.eligible)) }) ∧
    (param r 2 = 1 → x.pending = none →
      exec .readFlow s = .next { s with mgmt := s.mgmt.answered r rest .ok [0, 0, 0, 0, 0, 0, 0, 0] }) ∧
    (∀ c, param r 2 = 1 → x.pending = some c →
      exec .readFlow s = .next { s with mgmt := s.mgmt.answered r rest .ok (1 :: contract c) }) ∧
    (param r 2 = 2 → exec .readFlow s = .next { s with mgmt := (s.mgmt.answered r rest .ok
      (bytes4 k.accepted ++ bytes4 k.tagged ++ bytes4 k.policed ++ bytes4 k.dropped ++ bytes4 k.sent ++ bytes4 k.flushed)) })

/-! ## Requests on the Channel Map -/

/-- PREPARE_MAP (R57, R153): its one check is the option; ACTIVE makes every Staging entry a copy of the Active one and EMPTY makes it
NONE; the Active bank, the roles, the counts and the generation are unchanged; OK with the identity of Staging and the generation. -/
def Obligations.PrepareMapSetsTheStagingBank : Prop :=
  ∀ (s : State) (r : Payload) (rest : List Payload), Executes s 0x0B r rest →
    (1 < (param r 0).toNat → exec .prepareMap s = .next { s with mgmt := s.mgmt.answered r rest .badValue [] }) ∧
    ((param r 0).toNat ≤ 1 → ∃ t, exec .prepareMap s = .next t ∧ t = { s with mgmt := t.mgmt, map := t.map } ∧
      t.map.active = s.map.active ∧ t.map.generation = s.map.generation ∧ t.map.refCounts = s.map.refCounts ∧
      t.map.activeBank = s.map.activeBank ∧
      (∀ p c, t.map.stagingBank.entry p c = if param r 0 = 0 then s.map.activeBank.entry p c else none) ∧
      t.mgmt = s.mgmt.answered r rest .ok (byteOf (otherBank s.map.active).code :: bytes2 s.map.generation))

/-- WRITE_MAP (R56, R154, R195): its checks in their order; when all pass, value i goes into the Staging entry for first channel + i,
every other entry of both banks is unchanged, and so are the roles, the counts and the generation; OK with Staging's identity. -/
def Obligations.WriteMapWritesTheRun : Prop :=
  ∀ (s : State) (r : Payload) (rest : List Payload), Executes s 0x0C r rest →
    let n := (param r 3).toNat
    let first := (param2 r 1).toNat
    let value (i : Nat) := mapValueOf (param2 r (4 + 2 * i))
    let refused (st : Status) := exec .writeMap s = .next { s with mgmt := s.mgmt.answered r rest st [] }
    (portOf (param r 0) = none ∨ n < 1 ∨ 11 < n → refused .badValue) ∧
    (portOf (param r 0) ≠ none → 1 ≤ n → n ≤ 11 → 1022 < first + n - 1 → refused .badIndex) ∧
    (portOf (param r 0) ≠ none → 1 ≤ n → n ≤ 11 → first + n - 1 ≤ 1022 → (∃ i, i < n ∧ value i = none) → refused .badValue) ∧
    (∀ p, portOf (param r 0) = some p → 1 ≤ n → n ≤ 11 → first + n - 1 ≤ 1022 → (∀ i, i < n → value i ≠ none) →
      ∃ t, exec .writeMap s = .next t ∧ t = { s with mgmt := t.mgmt, map := t.map } ∧
        t.map.active = s.map.active ∧ t.map.generation = s.map.generation ∧ t.map.refCounts = s.map.refCounts ∧
        t.map.activeBank = s.map.activeBank ∧
        (∀ (p' : Port) (c : UserChannel), some (t.map.stagingBank.entry p' c) =
          if p' = p ∧ first ≤ c.val ∧ c.val < first + n then value (c.val - first)
          else some (s.map.stagingBank.entry p' c)) ∧
        t.mgmt = s.mgmt.answered r rest .ok [byteOf (otherBank s.map.active).code])

/-- READ_MAP (R58, R155, R195): its checks in their order; when all pass it changes nothing but the Management Engine, and returns the
bank's identity, the generation, the NONE mask and the entries of the run. -/
def Obligations.ReadMapReturnsTheRun : Prop :=
  ∀ (s : State) (r : Payload) (rest : List Payload), Executes s 0x0D r rest →
    let n := (param r 4).toNat
    let first := (param2 r 2).toNat
    let refused (st : Status) := exec .readMap s = .next { s with mgmt := s.mgmt.answered r rest st [] }
    (1 < (param r 0).toNat ∨ portOf (param r 1) = none ∨ n < 1 ∨ 12 < n → refused .badValue) ∧
    ((param r 0).toNat ≤ 1 → portOf (param r 1) ≠ none → 1 ≤ n → n ≤ 12 → 1022 < first + n - 1 → refused .badIndex) ∧
    (∀ p, (param r 0).toNat ≤ 1 → portOf (param r 1) = some p → 1 ≤ n → n ≤ 12 → first + n - 1 ≤ 1022 →
      ∃ (mask : BitVec 16) (entries : List Byte),
        exec .readMap s = .next { s with mgmt := (s.mgmt.answered r rest .ok
          (byteOf (if param r 0 = 0 then s.map.active else otherBank s.map.active).code :: bytes2 s.map.generation
            ++ bytes2 mask ++ entries)) } ∧
        entries.length = n ∧
        ∀ (i : Nat) (c : UserChannel), i < 16 → (i < n → c.val = first + i) →
          let bank := s.map.bank (if param r 0 = 0 then s.map.active else otherBank s.map.active)
          mask.getLsbD i = (decide (i < n) && decide (bank.entry p c = none)) ∧
          (i < n → entries[i]? = some (match bank.entry p c with | some f => byteOf f.val | none => 0)))

/-- SWAP_MAP (R59, R60, R61, R156). When every Staging entry is NONE or names an OPEN or SUSPENDED flow that egresses on the other
port, the roles are exchanged, each count becomes the number of entries of the new Active bank that name its flow, and the generation
rises by 1, OK with it. Otherwise nothing changes, and MAP_INVALID names the first failing entry, port T before port F, and why. -/
def Obligations.SwapMapChecksThenExchanges : Prop :=
  ∀ (s : State) (r : Payload) (rest : List Payload), Executes s 0x0E r rest →
    let passes (p : Port) (c : UserChannel) := ∀ f, s.map.stagingBank.entry p c = some f →
      ((s.flow f).lifecycle = .opened ∨ (s.flow f).lifecycle = .suspended) ∧ (s.flow f).egressPort = otherPort p
    ((∀ p c, passes p c) → exec .swapMap s = .next { s with
      mgmt := s.mgmt.answered r rest .ok (bytes2 (s.map.generation + 1))
      map := { s.map with
        active := otherBank s.map.active
        generation := s.map.generation + 1
        refCounts := Vector.ofFn fun f => s.map.stagingBank.naming f } }) ∧
    (∀ p c f, s.map.stagingBank.entry p c = some f → ¬ passes p c → (∀ d, d < c → passes p d) →
      (p = .F → ∀ d, passes .T d) →
      exec .swapMap s = .next { s with mgmt := (s.mgmt.answered r rest .mapInvalid
        ([byteOf (portCode p)] ++ bytes2 (BitVec.ofNat 16 c.val)
          ++ [if (s.flow f).lifecycle = .unused then 1 else if (s.flow f).lifecycle = .draining then 2 else 3])) })

/-! ## Requests on the Cell Buffer -/

/-- SET_WATERMARKS (R84, R157): BAD_VALUE unless the actions and classes name something and H < W1 < W2 < W3 ≤ 1024; otherwise the
settings are replaced, each level is raised exactly when O has reached its threshold, the changes are posted, those that rise in
ascending and those that clear in descending order, and the response is OK with the number of raised levels. -/
def Obligations.SetWatermarksReplacesAndReevaluates : Prop :=
  ∀ (s : State) (r : Payload) (rest : List Payload), Executes s 0x0F r rest →
    let w1 := (param2 r 0).toNat
    let w2 := (param2 r 2).toNat
    let w3 := (param2 r 4).toNat
    let h := (param r 6).toNat
    let fits := h < w1 ∧ w1 < w2 ∧ w2 < w3 ∧ w3 ≤ 1024
    (actionOf (param r 7) (param r 8) = none ∨ actionOf (param r 9) (param r 10) = none ∨
        actionOf (param r 11) (param r 12) = none ∨ ¬ fits →
      exec .setWatermarks s = .next { s with mgmt := s.mgmt.answered r rest .badValue [] }) ∧
    (∀ a1 a2 a3, actionOf (param r 7) (param r 8) = some a1 → actionOf (param r 9) (param r 10) = some a2 →
      actionOf (param r 11) (param r 12) = some a3 → fits →
      let o := s.buffer.occupancy
      let up : Level → Bool
        | .one => decide (w1 ≤ o)
        | .two => decide (w2 ≤ o)
        | .three => decide (w3 ≤ o)
      exec .setWatermarks s = .next { s with
        mgmt := s.mgmt.answered r rest .ok [byteOf ((up .one).toNat + (up .two).toNat + (up .three).toNat)]
        buffer := { s.buffer with
          level1 := { threshold := w1, action := a1, raised := up .one }
          level2 := { threshold := w2, action := a2, raised := up .two }
          level3 := { threshold := w3, action := a3, raised := up .three }
          hysteresis := h }
        notices := s.notices.postAll s.time.now
          (risePostings (fun l => !(s.buffer.level l).raised && up l)
            ++ fallPostings (fun l => (s.buffer.level l).raised && !up l)) })

/-- READ_POOL (R69, R158): OK with O, the free slots, the number of raised levels and the peak; the peak becomes O; nothing else
changes. A READ_POOL with tag Q − 1 while the cache is valid gets the cached response and does not touch the peak. -/
def Obligations.ReadPoolReturnsAndRestartsThePeak : Prop :=
  (∀ (s : State) (r : Payload) (rest : List Payload), Executes s 0x10 r rest →
    let o := s.buffer.occupancy
    exec .readPool s = .next { s with
      mgmt := s.mgmt.answered r rest .ok (bytes2 (BitVec.ofNat 16 o) ++ bytes2 (BitVec.ofNat 16 (1024 - o))
        ++ [byteOf (s.buffer.level1.raised.toNat + s.buffer.level2.raised.toNat + s.buffer.level3.raised.toNat)]
        ++ bytes2 (BitVec.ofNat 16 s.buffer.peak))
      buffer := { s.buffer with peak := o } }) ∧
  (∀ (s : State) (r : Payload) (rest : List Payload) (x : Response), Takes s r rest → requestCode r = 0x10 →
    requestTag r ≠ s.mgmt.expected → requestTag r = s.mgmt.expected - 1 → s.mgmt.cache = some x →
    exec .readPool s = .next { s with mgmt := s.mgmt.repeated rest x })

/-- The levels after an enqueue and after a return of slots, on the buffer as it then stands (R82, R83): a clear level whose threshold
O has come to is raised, with WATERMARK_UP; a raised level with O < W − H is cleared, with WATERMARK_DOWN, level 3 first. -/
def Obligations.WatermarkLevelsRiseAndClear : Prop :=
  ∀ s : State,
    s.raiseLevels = { s with
      buffer := s.buffer.withRaised (fun l => (s.buffer.level l).raised || s.buffer.rises l)
      notices := s.notices.postAll s.time.now (risePostings s.buffer.rises) } ∧
    s.clearLevels = { s with
      buffer := s.buffer.withRaised (fun l => (s.buffer.level l).raised && !s.buffer.falls l)
      notices := s.notices.postAll s.time.now (fallPostings s.buffer.falls) } ∧
    (s.buffer.level1.threshold < s.buffer.level2.threshold → s.buffer.level2.threshold < s.buffer.level3.threshold →
      (risePostings s.buffer.rises).length ≤ 1)

/-! ## Counters, probe and notices -/

/-- READ_COUNTERS (R159, R184): its checks in their order; when all pass, six counters of the flow or the port as they stand, with the
lifecycle state or the link state; with clear, those six are then zeroed; nothing else changes. -/
def Obligations.ReadCountersReturnsAndClears : Prop :=
  ∀ (s : State) (r : Payload) (rest : List Payload), Executes s 0x11 r rest →
    let refused (st : Status) := exec .readCounters s = .next { s with mgmt := s.mgmt.answered r rest st [] }
    let clear := (param r 4).toNat
    (1 < (param r 0).toNat → refused .badValue) ∧
    (param r 0 = 0 → flowOf (param2 r 1) = none → refused .badIndex) ∧
    (param r 0 = 1 → portOf (param r 3) = none → refused .badValue) ∧
    (param r 0 = 0 → flowOf (param2 r 1) ≠ none → 1 < clear → refused .badValue) ∧
    (param r 0 = 1 → portOf (param r 3) ≠ none → 1 < clear → refused .badValue) ∧
    (∀ f, param r 0 = 0 → flowOf (param2 r 1) = some f → clear ≤ 1 →
      let k := s.flowCounters f
      exec .readCounters s = .next { s with
        mgmt := s.mgmt.answered r rest .ok (bytes4 k.accepted ++ bytes4 k.tagged ++ bytes4 k.policed ++ bytes4 k.dropped
          ++ bytes4 k.sent ++ bytes4 k.flushed ++ [byteOf (s.flow f).lifecycle.code])
        counters := if clear = 0 then s.counters else { s.counters with flows := (s.counters.flows.set f.val
          { accepted := 0, tagged := 0, policed := 0, dropped := 0, sent := 0, flushed := 0 } f.isLt) } }) ∧
    (∀ p, param r 0 = 1 → portOf (param r 3) = some p → clear ≤ 1 →
      let k := s.portCounters p
      let u := if clear = 0 then s else s.setPortCounters p
        { received := 0, headerErrors := 0, unmapped := 0, misdirected := 0, requestsDropped := 0, sent := 0 }
      exec .readCounters s = .next { u with
        mgmt := s.mgmt.answered r rest .ok (bytes4 k.received ++ bytes4 k.headerErrors ++ bytes4 k.unmapped
          ++ bytes4 k.misdirected ++ bytes4 k.requestsDropped ++ bytes4 k.sent ++ [byteOf (s.port p).link.code]) })

/-- START_PROBE (R160, R186, R189). A count above 8 is BAD_VALUE. Count 0 cancels: an ARMED probe becomes ABORTED with PROBE_DONE
(ABORTED), any other is left; OK with the state. A count of 1..8 with the probe not ARMED and the flow OPEN or SUSPENDED arms it,
ACCEPTED with the flow, the count and now; with the probe ARMED it is BUSY, after the flow number has been checked. -/
def Obligations.StartProbeArmsOrCancels : Prop :=
  ∀ (s : State) (r : Payload) (rest : List Payload), Executes s 0x12 r rest →
    let n := (param r 2).toNat
    let refused (st : Status) := exec .startProbe s = .next { s with mgmt := s.mgmt.answered r rest st [] }
    (8 < n → refused .badValue) ∧
    (n = 0 → s.probe.state ≠ .armed →
      exec .startProbe s = .next { s with mgmt := s.mgmt.answered r rest .ok [byteOf s.probe.state.code] }) ∧
    (n = 0 → s.probe.state = .armed → exec .startProbe s = .next { s with
      mgmt := s.mgmt.answered r rest .ok [3]
      probe := { s.probe with state := .aborted }
      notices := s.notices.post (.probeDone s.probe.flow) s.time.now .aborted }) ∧
    (1 ≤ n → n ≤ 8 → flowOf (param2 r 0) = none → refused .badIndex) ∧
    (1 ≤ n → n ≤ 8 → flowOf (param2 r 0) ≠ none → s.probe.state = .armed → refused .busy) ∧
    (∀ f, 1 ≤ n → n ≤ 8 → flowOf (param2 r 0) = some f → s.probe.state ≠ .armed →
      (s.flow f).lifecycle = .opened ∨ (s.flow f).lifecycle = .suspended → exec .startProbe s = .next { s with
        mgmt := s.mgmt.answered r rest .accepted ([byteOf f.val, byteOf n] ++ bytes3 s.time.now)
        probe := { state := .armed, flow := f, target := n, lastStamp := s.time.now, entries := [] } })

/-- READ_PROBE (R161, R195) changes nothing but the Management Engine: OK with the state, the flow, the target count, the number of
entries held and, for each entry, its interval and its code, verdict × 5 + outcome, the even entry of a pair in the high half. -/
def Obligations.ReadProbeReturnsTheRecord : Prop :=
  ∀ (s : State) (r : Payload) (rest : List Payload), Executes s 0x13 r rest → s.probe.entries.length ≤ 8 →
    let interval (i : Nat) : BitVec 16 := (s.probe.entries[i]?).elim 0 ProbeEntry.interval
    let code (i : Nat) : Nat := (s.probe.entries[i]?).elim 0 fun e => e.verdict.code * 5 + e.outcome.code
    exec .readProbe s = .next { s with mgmt := (s.mgmt.answered r rest .ok
      ([byteOf s.probe.state.code, byteOf s.probe.flow.val, byteOf s.probe.target, byteOf s.probe.entries.length]
        ++ (List.range 8).flatMap (fun i => bytes2 (interval i))
        ++ (List.range 4).map (fun i => byteOf (code (2 * i) * 16 + code (2 * i + 1))))) }

/-- GRANT_NOTICES and SET_NOTICE_ENABLE (R162, R163). A grant above 32 is BAD_VALUE; otherwise the credit rises by n up to 32, OK with
the credit. A mask with a bit above the eleven kinds is BAD_VALUE; otherwise the enable set is the one given, OK with it, and a
posting of a kind outside the set leaves the notice unit as it was. -/
def Obligations.CreditAndEnableSetAreReplaced : Prop :=
  (∀ (s : State) (r : Payload) (rest : List Payload), Executes s 0x14 r rest →
    let n := (param r 0).toNat
    let credit := min (s.notices.credit + n) 32
    (32 < n → exec .grantNotices s = .next { s with mgmt := s.mgmt.answered r rest .badValue [] }) ∧
    (n ≤ 32 → exec .grantNotices s = .next { s with
      mgmt := s.mgmt.answered r rest .ok [byteOf credit]
      notices := { s.notices with credit := credit } })) ∧
  (∀ (s : State) (r : Payload) (rest : List Payload), Executes s 0x15 r rest →
    (2047 < (param2 r 0).toNat → exec .setNoticeEnable s = .next { s with mgmt := s.mgmt.answered r rest .badValue [] }) ∧
    ((param2 r 0).toNat ≤ 2047 → exec .setNoticeEnable s = .next { s with
      mgmt := s.mgmt.answered r rest .ok [param r 0, param r 1]
      notices := { s.notices with enabled := (param2 r 0).setWidth 11 } })) ∧
  (∀ (u : NoticeUnit) (n : Notice) (now : Stamp) (d : Detail), u.enabled.getLsbD (n.code - 1) = false → u.post n now d = u)

/-- SOFT_RESET (R164, R165): the Flow Table, the buffer, the calendar, the ready lists, the map, the counters, the notices and the
probe take the values of the table, in the taking event; the time base, the settings, the sequence number, the enable set, the ports
and the queues of the Management Engine are kept; OK with Pace Time, and no notice is posted. The free list takes the order it has in
State.reset (log entry 3) and the contents of the cell slots stay (log entry 4): both are DESIGN CHOICEs of the model. -/
def Obligations.SoftResetResetsTheDatapath : Prop :=
  ∀ (s : State) (r : Payload) (rest : List Payload), Executes s 0x16 r rest → ∃ t, exec .softReset s = .next t ∧
    t = { s with mgmt := t.mgmt, map := t.map, flows := t.flows, buffer := t.buffer, calendar := t.calendar, ready := t.ready,
                 notices := t.notices, counters := t.counters, probe := t.probe } ∧
    t.mgmt = s.mgmt.answered r rest .ok (bytes3 s.time.now) ∧
    t.map = State.reset.map ∧ t.flows = State.reset.flows ∧ t.calendar = State.reset.calendar ∧ t.ready = State.reset.ready ∧
    t.counters = State.reset.counters ∧ t.probe = State.reset.probe ∧
    t.buffer = { s.buffer.withRaised (fun _ => false) with freeList := State.reset.buffer.freeList, peak := 0 } ∧
    t.notices = { s.notices with records := [], credit := 0 }

/-- Posting (R170 to R173): of a disabled kind, nothing; merged into the queued record of its kind and subject, whose count rises by 1
up to 255; otherwise appended with count 1 while fewer than 31 records are queued; otherwise lost, and counted in NOTICES_LOST while
that kind is enabled. The credit, the sequence number and the enable set are never changed. -/
def Obligations.PostingsMergeAppendOrAreLost : Prop :=
  ∀ (u : NoticeUnit) (n : Notice) (now : Stamp) (d : Detail),
    let on (k : Notice) := u.enabled.getLsbD (k.code - 1)
    let raised (k : Notice) (x : NoticeRecord) : NoticeRecord :=
      if x.what = k then { x with count := if x.count < 255 then x.count + 1 else 255 } else x
    let queued (k : Notice) := ∃ x ∈ u.records, x.what = k
    (on n = false → u.post n now d = u) ∧
    (on n = true → queued n → (∀ x ∈ u.records, x.count ≤ 255) →
      u.post n now d = { u with records := u.records.map (raised n) }) ∧
    (on n = true → ¬ queued n → u.records.length < 31 →
      u.post n now d = { u with records := u.records ++ [{ what := n, count := 1, stamp := now, detail := d }] }) ∧
    (on n = true → ¬ queued n → 31 ≤ u.records.length → on .noticesLost = false → u.post n now d = u) ∧
    (on n = true → ¬ queued n → 31 ≤ u.records.length → on .noticesLost = true → queued .noticesLost →
      (∀ x ∈ u.records, x.count ≤ 255) → u.post n now d = { u with records := u.records.map (raised .noticesLost) }) ∧
    (on n = true → ¬ queued n → 31 ≤ u.records.length → on .noticesLost = true → ¬ queued .noticesLost →
      u.post n now d = { u with records := u.records ++ [{ what := .noticesLost, count := 1, stamp := now, detail := .none }] })

/-! ## Laws that every step keeps -/

/-- Every law holds right after reset. -/
def Obligations.LawsHoldAtReset : Prop :=
  QueuesBounded State.reset ∧ CacheLaw State.reset ∧ LinkLaw State.reset ∧ TimeLaw State.reset ∧ NoticeLaw State.reset ∧
    ProbeLaw State.reset ∧ MapLaw State.reset ∧ ContractLaw State.reset ∧ PoolLaw State.reset ∧ WatermarkLaw State.reset ∧
    SchedulingLaw State.reset

/-- The bounds of the Management Engine's queues, the law of its cache, the law of the links, the law of the Time Base
and the law of the Arrival Probe (R185) are each kept by every step. -/
def Obligations.SmallLawsAreKept : Prop :=
  ∀ s t : State, Sys2Proof.Machine.step s = .next t →
    (QueuesBounded s → QueuesBounded t) ∧ (CacheLaw s → CacheLaw t) ∧ (LinkLaw s → LinkLaw t) ∧ (TimeLaw s → TimeLaw t) ∧
      (ProbeLaw s → ProbeLaw t)

/-- Every step keeps the law of the Notice Queue (R169). -/
def Obligations.NoticeLawIsKept : Prop :=
  ∀ s t : State, NoticeLaw s → Sys2Proof.Machine.step s = .next t → NoticeLaw t

/-- Every step keeps the map law (R63). -/
def Obligations.MapLawIsKept : Prop :=
  ∀ s t : State, MapLaw s → Sys2Proof.Machine.step s = .next t → MapLaw t

/-- Every step keeps the law of the contracts (R1). -/
def Obligations.ContractLawIsKept : Prop :=
  ∀ s t : State, ContractLaw s → Sys2Proof.Machine.step s = .next t → ContractLaw t

/-- Every step keeps the pool law (R68, R69), the map law given. -/
def Obligations.PoolLawIsKept : Prop :=
  ∀ s t : State, MapLaw s → PoolLaw s → Sys2Proof.Machine.step s = .next t → PoolLaw t

/-- Every step keeps the watermark law (R80). -/
def Obligations.WatermarkLawIsKept : Prop :=
  ∀ s t : State, WatermarkLaw s → Sys2Proof.Machine.step s = .next t → WatermarkLaw t

/-- Every step keeps the laws of the ready lists, the calendar and the due times (R13, R26, R87, R92), the map law given. -/
def Obligations.SchedulingLawIsKept : Prop :=
  ∀ s t : State, MapLaw s → SchedulingLaw s → Sys2Proof.Machine.step s = .next t → SchedulingLaw t
end

