-- ==== Sys2Proof/Laws/State.lean ====
section
/-! SUPPORT. One lemma for each field under each named update of the state, each by rfl: later proofs cite these and unfold no
record update. -/

namespace Sys2Proof.Machine

/-! ## withMap -/

@[simp] theorem State.withMap_pending (s : State) (x : ChannelMap) : (s.withMap x).pending = s.pending := rfl
@[simp] theorem State.withMap_resetHeld (s : State) (x : ChannelMap) : (s.withMap x).resetHeld = s.resetHeld := rfl
@[simp] theorem State.withMap_portT (s : State) (x : ChannelMap) : (s.withMap x).portT = s.portT := rfl
@[simp] theorem State.withMap_portF (s : State) (x : ChannelMap) : (s.withMap x).portF = s.portF := rfl
@[simp] theorem State.withMap_map (s : State) (x : ChannelMap) : (s.withMap x).map = x := rfl
@[simp] theorem State.withMap_flows (s : State) (x : ChannelMap) : (s.withMap x).flows = s.flows := rfl
@[simp] theorem State.withMap_buffer (s : State) (x : ChannelMap) : (s.withMap x).buffer = s.buffer := rfl
@[simp] theorem State.withMap_calendar (s : State) (x : ChannelMap) : (s.withMap x).calendar = s.calendar := rfl
@[simp] theorem State.withMap_ready (s : State) (x : ChannelMap) : (s.withMap x).ready = s.ready := rfl
@[simp] theorem State.withMap_time (s : State) (x : ChannelMap) : (s.withMap x).time = s.time := rfl
@[simp] theorem State.withMap_mgmt (s : State) (x : ChannelMap) : (s.withMap x).mgmt = s.mgmt := rfl
@[simp] theorem State.withMap_notices (s : State) (x : ChannelMap) : (s.withMap x).notices = s.notices := rfl
@[simp] theorem State.withMap_counters (s : State) (x : ChannelMap) : (s.withMap x).counters = s.counters := rfl
@[simp] theorem State.withMap_probe (s : State) (x : ChannelMap) : (s.withMap x).probe = s.probe := rfl

/-! ## withFlows -/

@[simp] theorem State.withFlows_pending (s : State) (x : Vector FlowRecord 256) : (s.withFlows x).pending = s.pending := rfl
@[simp] theorem State.withFlows_resetHeld (s : State) (x : Vector FlowRecord 256) : (s.withFlows x).resetHeld = s.resetHeld := rfl
@[simp] theorem State.withFlows_portT (s : State) (x : Vector FlowRecord 256) : (s.withFlows x).portT = s.portT := rfl
@[simp] theorem State.withFlows_portF (s : State) (x : Vector FlowRecord 256) : (s.withFlows x).portF = s.portF := rfl
@[simp] theorem State.withFlows_map (s : State) (x : Vector FlowRecord 256) : (s.withFlows x).map = s.map := rfl
@[simp] theorem State.withFlows_flows (s : State) (x : Vector FlowRecord 256) : (s.withFlows x).flows = x := rfl
@[simp] theorem State.withFlows_buffer (s : State) (x : Vector FlowRecord 256) : (s.withFlows x).buffer = s.buffer := rfl
@[simp] theorem State.withFlows_calendar (s : State) (x : Vector FlowRecord 256) : (s.withFlows x).calendar = s.calendar := rfl
@[simp] theorem State.withFlows_ready (s : State) (x : Vector FlowRecord 256) : (s.withFlows x).ready = s.ready := rfl
@[simp] theorem State.withFlows_time (s : State) (x : Vector FlowRecord 256) : (s.withFlows x).time = s.time := rfl
@[simp] theorem State.withFlows_mgmt (s : State) (x : Vector FlowRecord 256) : (s.withFlows x).mgmt = s.mgmt := rfl
@[simp] theorem State.withFlows_notices (s : State) (x : Vector FlowRecord 256) : (s.withFlows x).notices = s.notices := rfl
@[simp] theorem State.withFlows_counters (s : State) (x : Vector FlowRecord 256) : (s.withFlows x).counters = s.counters := rfl
@[simp] theorem State.withFlows_probe (s : State) (x : Vector FlowRecord 256) : (s.withFlows x).probe = s.probe := rfl

/-! ## withBuffer -/

@[simp] theorem State.withBuffer_pending (s : State) (x : CellBuffer) : (s.withBuffer x).pending = s.pending := rfl
@[simp] theorem State.withBuffer_resetHeld (s : State) (x : CellBuffer) : (s.withBuffer x).resetHeld = s.resetHeld := rfl
@[simp] theorem State.withBuffer_portT (s : State) (x : CellBuffer) : (s.withBuffer x).portT = s.portT := rfl
@[simp] theorem State.withBuffer_portF (s : State) (x : CellBuffer) : (s.withBuffer x).portF = s.portF := rfl
@[simp] theorem State.withBuffer_map (s : State) (x : CellBuffer) : (s.withBuffer x).map = s.map := rfl
@[simp] theorem State.withBuffer_flows (s : State) (x : CellBuffer) : (s.withBuffer x).flows = s.flows := rfl
@[simp] theorem State.withBuffer_buffer (s : State) (x : CellBuffer) : (s.withBuffer x).buffer = x := rfl
@[simp] theorem State.withBuffer_calendar (s : State) (x : CellBuffer) : (s.withBuffer x).calendar = s.calendar := rfl
@[simp] theorem State.withBuffer_ready (s : State) (x : CellBuffer) : (s.withBuffer x).ready = s.ready := rfl
@[simp] theorem State.withBuffer_time (s : State) (x : CellBuffer) : (s.withBuffer x).time = s.time := rfl
@[simp] theorem State.withBuffer_mgmt (s : State) (x : CellBuffer) : (s.withBuffer x).mgmt = s.mgmt := rfl
@[simp] theorem State.withBuffer_notices (s : State) (x : CellBuffer) : (s.withBuffer x).notices = s.notices := rfl
@[simp] theorem State.withBuffer_counters (s : State) (x : CellBuffer) : (s.withBuffer x).counters = s.counters := rfl
@[simp] theorem State.withBuffer_probe (s : State) (x : CellBuffer) : (s.withBuffer x).probe = s.probe := rfl

/-! ## withCalendar -/

@[simp] theorem State.withCalendar_pending (s : State) (x : Vector (List FlowNo) 1024) : (s.withCalendar x).pending = s.pending := rfl
@[simp] theorem State.withCalendar_resetHeld (s : State) (x : Vector (List FlowNo) 1024) : (s.withCalendar x).resetHeld = s.resetHeld := rfl
@[simp] theorem State.withCalendar_portT (s : State) (x : Vector (List FlowNo) 1024) : (s.withCalendar x).portT = s.portT := rfl
@[simp] theorem State.withCalendar_portF (s : State) (x : Vector (List FlowNo) 1024) : (s.withCalendar x).portF = s.portF := rfl
@[simp] theorem State.withCalendar_map (s : State) (x : Vector (List FlowNo) 1024) : (s.withCalendar x).map = s.map := rfl
@[simp] theorem State.withCalendar_flows (s : State) (x : Vector (List FlowNo) 1024) : (s.withCalendar x).flows = s.flows := rfl
@[simp] theorem State.withCalendar_buffer (s : State) (x : Vector (List FlowNo) 1024) : (s.withCalendar x).buffer = s.buffer := rfl
@[simp] theorem State.withCalendar_calendar (s : State) (x : Vector (List FlowNo) 1024) : (s.withCalendar x).calendar = x := rfl
@[simp] theorem State.withCalendar_ready (s : State) (x : Vector (List FlowNo) 1024) : (s.withCalendar x).ready = s.ready := rfl
@[simp] theorem State.withCalendar_time (s : State) (x : Vector (List FlowNo) 1024) : (s.withCalendar x).time = s.time := rfl
@[simp] theorem State.withCalendar_mgmt (s : State) (x : Vector (List FlowNo) 1024) : (s.withCalendar x).mgmt = s.mgmt := rfl
@[simp] theorem State.withCalendar_notices (s : State) (x : Vector (List FlowNo) 1024) : (s.withCalendar x).notices = s.notices := rfl
@[simp] theorem State.withCalendar_counters (s : State) (x : Vector (List FlowNo) 1024) : (s.withCalendar x).counters = s.counters := rfl
@[simp] theorem State.withCalendar_probe (s : State) (x : Vector (List FlowNo) 1024) : (s.withCalendar x).probe = s.probe := rfl

/-! ## withReady -/

@[simp] theorem State.withReady_pending (s : State) (x : ReadyLists) : (s.withReady x).pending = s.pending := rfl
@[simp] theorem State.withReady_resetHeld (s : State) (x : ReadyLists) : (s.withReady x).resetHeld = s.resetHeld := rfl
@[simp] theorem State.withReady_portT (s : State) (x : ReadyLists) : (s.withReady x).portT = s.portT := rfl
@[simp] theorem State.withReady_portF (s : State) (x : ReadyLists) : (s.withReady x).portF = s.portF := rfl
@[simp] theorem State.withReady_map (s : State) (x : ReadyLists) : (s.withReady x).map = s.map := rfl
@[simp] theorem State.withReady_flows (s : State) (x : ReadyLists) : (s.withReady x).flows = s.flows := rfl
@[simp] theorem State.withReady_buffer (s : State) (x : ReadyLists) : (s.withReady x).buffer = s.buffer := rfl
@[simp] theorem State.withReady_calendar (s : State) (x : ReadyLists) : (s.withReady x).calendar = s.calendar := rfl
@[simp] theorem State.withReady_ready (s : State) (x : ReadyLists) : (s.withReady x).ready = x := rfl
@[simp] theorem State.withReady_time (s : State) (x : ReadyLists) : (s.withReady x).time = s.time := rfl
@[simp] theorem State.withReady_mgmt (s : State) (x : ReadyLists) : (s.withReady x).mgmt = s.mgmt := rfl
@[simp] theorem State.withReady_notices (s : State) (x : ReadyLists) : (s.withReady x).notices = s.notices := rfl
@[simp] theorem State.withReady_counters (s : State) (x : ReadyLists) : (s.withReady x).counters = s.counters := rfl
@[simp] theorem State.withReady_probe (s : State) (x : ReadyLists) : (s.withReady x).probe = s.probe := rfl

/-! ## withTime -/

@[simp] theorem State.withTime_pending (s : State) (x : TimeBase) : (s.withTime x).pending = s.pending := rfl
@[simp] theorem State.withTime_resetHeld (s : State) (x : TimeBase) : (s.withTime x).resetHeld = s.resetHeld := rfl
@[simp] theorem State.withTime_portT (s : State) (x : TimeBase) : (s.withTime x).portT = s.portT := rfl
@[simp] theorem State.withTime_portF (s : State) (x : TimeBase) : (s.withTime x).portF = s.portF := rfl
@[simp] theorem State.withTime_map (s : State) (x : TimeBase) : (s.withTime x).map = s.map := rfl
@[simp] theorem State.withTime_flows (s : State) (x : TimeBase) : (s.withTime x).flows = s.flows := rfl
@[simp] theorem State.withTime_buffer (s : State) (x : TimeBase) : (s.withTime x).buffer = s.buffer := rfl
@[simp] theorem State.withTime_calendar (s : State) (x : TimeBase) : (s.withTime x).calendar = s.calendar := rfl
@[simp] theorem State.withTime_ready (s : State) (x : TimeBase) : (s.withTime x).ready = s.ready := rfl
@[simp] theorem State.withTime_time (s : State) (x : TimeBase) : (s.withTime x).time = x := rfl
@[simp] theorem State.withTime_mgmt (s : State) (x : TimeBase) : (s.withTime x).mgmt = s.mgmt := rfl
@[simp] theorem State.withTime_notices (s : State) (x : TimeBase) : (s.withTime x).notices = s.notices := rfl
@[simp] theorem State.withTime_counters (s : State) (x : TimeBase) : (s.withTime x).counters = s.counters := rfl
@[simp] theorem State.withTime_probe (s : State) (x : TimeBase) : (s.withTime x).probe = s.probe := rfl

/-! ## withMgmt -/

@[simp] theorem State.withMgmt_pending (s : State) (x : Management) : (s.withMgmt x).pending = s.pending := rfl
@[simp] theorem State.withMgmt_resetHeld (s : State) (x : Management) : (s.withMgmt x).resetHeld = s.resetHeld := rfl
@[simp] theorem State.withMgmt_portT (s : State) (x : Management) : (s.withMgmt x).portT = s.portT := rfl
@[simp] theorem State.withMgmt_portF (s : State) (x : Management) : (s.withMgmt x).portF = s.portF := rfl
@[simp] theorem State.withMgmt_map (s : State) (x : Management) : (s.withMgmt x).map = s.map := rfl
@[simp] theorem State.withMgmt_flows (s : State) (x : Management) : (s.withMgmt x).flows = s.flows := rfl
@[simp] theorem State.withMgmt_buffer (s : State) (x : Management) : (s.withMgmt x).buffer = s.buffer := rfl
@[simp] theorem State.withMgmt_calendar (s : State) (x : Management) : (s.withMgmt x).calendar = s.calendar := rfl
@[simp] theorem State.withMgmt_ready (s : State) (x : Management) : (s.withMgmt x).ready = s.ready := rfl
@[simp] theorem State.withMgmt_time (s : State) (x : Management) : (s.withMgmt x).time = s.time := rfl
@[simp] theorem State.withMgmt_mgmt (s : State) (x : Management) : (s.withMgmt x).mgmt = x := rfl
@[simp] theorem State.withMgmt_notices (s : State) (x : Management) : (s.withMgmt x).notices = s.notices := rfl
@[simp] theorem State.withMgmt_counters (s : State) (x : Management) : (s.withMgmt x).counters = s.counters := rfl
@[simp] theorem State.withMgmt_probe (s : State) (x : Management) : (s.withMgmt x).probe = s.probe := rfl

/-! ## withNotices -/

@[simp] theorem State.withNotices_pending (s : State) (x : NoticeUnit) : (s.withNotices x).pending = s.pending := rfl
@[simp] theorem State.withNotices_resetHeld (s : State) (x : NoticeUnit) : (s.withNotices x).resetHeld = s.resetHeld := rfl
@[simp] theorem State.withNotices_portT (s : State) (x : NoticeUnit) : (s.withNotices x).portT = s.portT := rfl
@[simp] theorem State.withNotices_portF (s : State) (x : NoticeUnit) : (s.withNotices x).portF = s.portF := rfl
@[simp] theorem State.withNotices_map (s : State) (x : NoticeUnit) : (s.withNotices x).map = s.map := rfl
@[simp] theorem State.withNotices_flows (s : State) (x : NoticeUnit) : (s.withNotices x).flows = s.flows := rfl
@[simp] theorem State.withNotices_buffer (s : State) (x : NoticeUnit) : (s.withNotices x).buffer = s.buffer := rfl
@[simp] theorem State.withNotices_calendar (s : State) (x : NoticeUnit) : (s.withNotices x).calendar = s.calendar := rfl
@[simp] theorem State.withNotices_ready (s : State) (x : NoticeUnit) : (s.withNotices x).ready = s.ready := rfl
@[simp] theorem State.withNotices_time (s : State) (x : NoticeUnit) : (s.withNotices x).time = s.time := rfl
@[simp] theorem State.withNotices_mgmt (s : State) (x : NoticeUnit) : (s.withNotices x).mgmt = s.mgmt := rfl
@[simp] theorem State.withNotices_notices (s : State) (x : NoticeUnit) : (s.withNotices x).notices = x := rfl
@[simp] theorem State.withNotices_counters (s : State) (x : NoticeUnit) : (s.withNotices x).counters = s.counters := rfl
@[simp] theorem State.withNotices_probe (s : State) (x : NoticeUnit) : (s.withNotices x).probe = s.probe := rfl

/-! ## withCounters -/

@[simp] theorem State.withCounters_pending (s : State) (x : CounterBank) : (s.withCounters x).pending = s.pending := rfl
@[simp] theorem State.withCounters_resetHeld (s : State) (x : CounterBank) : (s.withCounters x).resetHeld = s.resetHeld := rfl
@[simp] theorem State.withCounters_portT (s : State) (x : CounterBank) : (s.withCounters x).portT = s.portT := rfl
@[simp] theorem State.withCounters_portF (s : State) (x : CounterBank) : (s.withCounters x).portF = s.portF := rfl
@[simp] theorem State.withCounters_map (s : State) (x : CounterBank) : (s.withCounters x).map = s.map := rfl
@[simp] theorem State.withCounters_flows (s : State) (x : CounterBank) : (s.withCounters x).flows = s.flows := rfl
@[simp] theorem State.withCounters_buffer (s : State) (x : CounterBank) : (s.withCounters x).buffer = s.buffer := rfl
@[simp] theorem State.withCounters_calendar (s : State) (x : CounterBank) : (s.withCounters x).calendar = s.calendar := rfl
@[simp] theorem State.withCounters_ready (s : State) (x : CounterBank) : (s.withCounters x).ready = s.ready := rfl
@[simp] theorem State.withCounters_time (s : State) (x : CounterBank) : (s.withCounters x).time = s.time := rfl
@[simp] theorem State.withCounters_mgmt (s : State) (x : CounterBank) : (s.withCounters x).mgmt = s.mgmt := rfl
@[simp] theorem State.withCounters_notices (s : State) (x : CounterBank) : (s.withCounters x).notices = s.notices := rfl
@[simp] theorem State.withCounters_counters (s : State) (x : CounterBank) : (s.withCounters x).counters = x := rfl
@[simp] theorem State.withCounters_probe (s : State) (x : CounterBank) : (s.withCounters x).probe = s.probe := rfl

/-! ## withProbe -/

@[simp] theorem State.withProbe_pending (s : State) (x : Probe) : (s.withProbe x).pending = s.pending := rfl
@[simp] theorem State.withProbe_resetHeld (s : State) (x : Probe) : (s.withProbe x).resetHeld = s.resetHeld := rfl
@[simp] theorem State.withProbe_portT (s : State) (x : Probe) : (s.withProbe x).portT = s.portT := rfl
@[simp] theorem State.withProbe_portF (s : State) (x : Probe) : (s.withProbe x).portF = s.portF := rfl
@[simp] theorem State.withProbe_map (s : State) (x : Probe) : (s.withProbe x).map = s.map := rfl
@[simp] theorem State.withProbe_flows (s : State) (x : Probe) : (s.withProbe x).flows = s.flows := rfl
@[simp] theorem State.withProbe_buffer (s : State) (x : Probe) : (s.withProbe x).buffer = s.buffer := rfl
@[simp] theorem State.withProbe_calendar (s : State) (x : Probe) : (s.withProbe x).calendar = s.calendar := rfl
@[simp] theorem State.withProbe_ready (s : State) (x : Probe) : (s.withProbe x).ready = s.ready := rfl
@[simp] theorem State.withProbe_time (s : State) (x : Probe) : (s.withProbe x).time = s.time := rfl
@[simp] theorem State.withProbe_mgmt (s : State) (x : Probe) : (s.withProbe x).mgmt = s.mgmt := rfl
@[simp] theorem State.withProbe_notices (s : State) (x : Probe) : (s.withProbe x).notices = s.notices := rfl
@[simp] theorem State.withProbe_counters (s : State) (x : Probe) : (s.withProbe x).counters = s.counters := rfl
@[simp] theorem State.withProbe_probe (s : State) (x : Probe) : (s.withProbe x).probe = x := rfl

/-! ## setPort -/

@[simp] theorem State.setPort_pending (s : State) (p : Port) (x : LinkPort) : (s.setPort p x).pending = s.pending := by cases p <;> rfl
@[simp] theorem State.setPort_resetHeld (s : State) (p : Port) (x : LinkPort) : (s.setPort p x).resetHeld = s.resetHeld := by cases p <;> rfl
@[simp] theorem State.setPort_map (s : State) (p : Port) (x : LinkPort) : (s.setPort p x).map = s.map := by cases p <;> rfl
@[simp] theorem State.setPort_flows (s : State) (p : Port) (x : LinkPort) : (s.setPort p x).flows = s.flows := by cases p <;> rfl
@[simp] theorem State.setPort_buffer (s : State) (p : Port) (x : LinkPort) : (s.setPort p x).buffer = s.buffer := by cases p <;> rfl
@[simp] theorem State.setPort_calendar (s : State) (p : Port) (x : LinkPort) : (s.setPort p x).calendar = s.calendar := by cases p <;> rfl
@[simp] theorem State.setPort_ready (s : State) (p : Port) (x : LinkPort) : (s.setPort p x).ready = s.ready := by cases p <;> rfl
@[simp] theorem State.setPort_time (s : State) (p : Port) (x : LinkPort) : (s.setPort p x).time = s.time := by cases p <;> rfl
@[simp] theorem State.setPort_mgmt (s : State) (p : Port) (x : LinkPort) : (s.setPort p x).mgmt = s.mgmt := by cases p <;> rfl
@[simp] theorem State.setPort_notices (s : State) (p : Port) (x : LinkPort) : (s.setPort p x).notices = s.notices := by cases p <;> rfl
@[simp] theorem State.setPort_counters (s : State) (p : Port) (x : LinkPort) : (s.setPort p x).counters = s.counters := by cases p <;> rfl
@[simp] theorem State.setPort_probe (s : State) (p : Port) (x : LinkPort) : (s.setPort p x).probe = s.probe := by cases p <;> rfl

/-! ## setFlow -/

@[simp] theorem State.setFlow_pending (s : State) (f : FlowNo) (r : FlowRecord) : (s.setFlow f r).pending = s.pending := rfl
@[simp] theorem State.setFlow_resetHeld (s : State) (f : FlowNo) (r : FlowRecord) : (s.setFlow f r).resetHeld = s.resetHeld := rfl
@[simp] theorem State.setFlow_portT (s : State) (f : FlowNo) (r : FlowRecord) : (s.setFlow f r).portT = s.portT := rfl
@[simp] theorem State.setFlow_portF (s : State) (f : FlowNo) (r : FlowRecord) : (s.setFlow f r).portF = s.portF := rfl
@[simp] theorem State.setFlow_map (s : State) (f : FlowNo) (r : FlowRecord) : (s.setFlow f r).map = s.map := rfl
@[simp] theorem State.setFlow_flows (s : State) (f : FlowNo) (r : FlowRecord) : (s.setFlow f r).flows = s.flows.set f.val r f.isLt := rfl
@[simp] theorem State.setFlow_buffer (s : State) (f : FlowNo) (r : FlowRecord) : (s.setFlow f r).buffer = s.buffer := rfl
@[simp] theorem State.setFlow_calendar (s : State) (f : FlowNo) (r : FlowRecord) : (s.setFlow f r).calendar = s.calendar := rfl
@[simp] theorem State.setFlow_ready (s : State) (f : FlowNo) (r : FlowRecord) : (s.setFlow f r).ready = s.ready := rfl
@[simp] theorem State.setFlow_time (s : State) (f : FlowNo) (r : FlowRecord) : (s.setFlow f r).time = s.time := rfl
@[simp] theorem State.setFlow_mgmt (s : State) (f : FlowNo) (r : FlowRecord) : (s.setFlow f r).mgmt = s.mgmt := rfl
@[simp] theorem State.setFlow_notices (s : State) (f : FlowNo) (r : FlowRecord) : (s.setFlow f r).notices = s.notices := rfl
@[simp] theorem State.setFlow_counters (s : State) (f : FlowNo) (r : FlowRecord) : (s.setFlow f r).counters = s.counters := rfl
@[simp] theorem State.setFlow_probe (s : State) (f : FlowNo) (r : FlowRecord) : (s.setFlow f r).probe = s.probe := rfl

/-! ## setFlowCounters -/

@[simp] theorem State.setFlowCounters_pending (s : State) (f : FlowNo) (c : FlowCounters) : (s.setFlowCounters f c).pending = s.pending := rfl
@[simp] theorem State.setFlowCounters_resetHeld (s : State) (f : FlowNo) (c : FlowCounters) : (s.setFlowCounters f c).resetHeld = s.resetHeld := rfl
@[simp] theorem State.setFlowCounters_portT (s : State) (f : FlowNo) (c : FlowCounters) : (s.setFlowCounters f c).portT = s.portT := rfl
@[simp] theorem State.setFlowCounters_portF (s : State) (f : FlowNo) (c : FlowCounters) : (s.setFlowCounters f c).portF = s.portF := rfl
@[simp] theorem State.setFlowCounters_map (s : State) (f : FlowNo) (c : FlowCounters) : (s.setFlowCounters f c).map = s.map := rfl
@[simp] theorem State.setFlowCounters_flows (s : State) (f : FlowNo) (c : FlowCounters) : (s.setFlowCounters f c).flows = s.flows := rfl
@[simp] theorem State.setFlowCounters_buffer (s : State) (f : FlowNo) (c : FlowCounters) : (s.setFlowCounters f c).buffer = s.buffer := rfl
@[simp] theorem State.setFlowCounters_calendar (s : State) (f : FlowNo) (c : FlowCounters) : (s.setFlowCounters f c).calendar = s.calendar := rfl
@[simp] theorem State.setFlowCounters_ready (s : State) (f : FlowNo) (c : FlowCounters) : (s.setFlowCounters f c).ready = s.ready := rfl
@[simp] theorem State.setFlowCounters_time (s : State) (f : FlowNo) (c : FlowCounters) : (s.setFlowCounters f c).time = s.time := rfl
@[simp] theorem State.setFlowCounters_mgmt (s : State) (f : FlowNo) (c : FlowCounters) : (s.setFlowCounters f c).mgmt = s.mgmt := rfl
@[simp] theorem State.setFlowCounters_notices (s : State) (f : FlowNo) (c : FlowCounters) : (s.setFlowCounters f c).notices = s.notices := rfl
@[simp] theorem State.setFlowCounters_probe (s : State) (f : FlowNo) (c : FlowCounters) : (s.setFlowCounters f c).probe = s.probe := rfl

/-! ## setPortCounters -/

@[simp] theorem State.setPortCounters_pending (s : State) (p : Port) (c : PortCounters) : (s.setPortCounters p c).pending = s.pending := by cases p <;> rfl
@[simp] theorem State.setPortCounters_resetHeld (s : State) (p : Port) (c : PortCounters) : (s.setPortCounters p c).resetHeld = s.resetHeld := by cases p <;> rfl
@[simp] theorem State.setPortCounters_portT (s : State) (p : Port) (c : PortCounters) : (s.setPortCounters p c).portT = s.portT := by cases p <;> rfl
@[simp] theorem State.setPortCounters_portF (s : State) (p : Port) (c : PortCounters) : (s.setPortCounters p c).portF = s.portF := by cases p <;> rfl
@[simp] theorem State.setPortCounters_map (s : State) (p : Port) (c : PortCounters) : (s.setPortCounters p c).map = s.map := by cases p <;> rfl
@[simp] theorem State.setPortCounters_flows (s : State) (p : Port) (c : PortCounters) : (s.setPortCounters p c).flows = s.flows := by cases p <;> rfl
@[simp] theorem State.setPortCounters_buffer (s : State) (p : Port) (c : PortCounters) : (s.setPortCounters p c).buffer = s.buffer := by cases p <;> rfl
@[simp] theorem State.setPortCounters_calendar (s : State) (p : Port) (c : PortCounters) : (s.setPortCounters p c).calendar = s.calendar := by cases p <;> rfl
@[simp] theorem State.setPortCounters_ready (s : State) (p : Port) (c : PortCounters) : (s.setPortCounters p c).ready = s.ready := by cases p <;> rfl
@[simp] theorem State.setPortCounters_time (s : State) (p : Port) (c : PortCounters) : (s.setPortCounters p c).time = s.time := by cases p <;> rfl
@[simp] theorem State.setPortCounters_mgmt (s : State) (p : Port) (c : PortCounters) : (s.setPortCounters p c).mgmt = s.mgmt := by cases p <;> rfl
@[simp] theorem State.setPortCounters_notices (s : State) (p : Port) (c : PortCounters) : (s.setPortCounters p c).notices = s.notices := by cases p <;> rfl
@[simp] theorem State.setPortCounters_probe (s : State) (p : Port) (c : PortCounters) : (s.setPortCounters p c).probe = s.probe := by cases p <;> rfl

/-! ## setReadyList -/

@[simp] theorem State.setReadyList_pending (s : State) (p : Port) (q : Priority) (l : List FlowNo) : (s.setReadyList p q l).pending = s.pending := by cases p <;> rfl
@[simp] theorem State.setReadyList_resetHeld (s : State) (p : Port) (q : Priority) (l : List FlowNo) : (s.setReadyList p q l).resetHeld = s.resetHeld := by cases p <;> rfl
@[simp] theorem State.setReadyList_portT (s : State) (p : Port) (q : Priority) (l : List FlowNo) : (s.setReadyList p q l).portT = s.portT := by cases p <;> rfl
@[simp] theorem State.setReadyList_portF (s : State) (p : Port) (q : Priority) (l : List FlowNo) : (s.setReadyList p q l).portF = s.portF := by cases p <;> rfl
@[simp] theorem State.setReadyList_map (s : State) (p : Port) (q : Priority) (l : List FlowNo) : (s.setReadyList p q l).map = s.map := by cases p <;> rfl
@[simp] theorem State.setReadyList_flows (s : State) (p : Port) (q : Priority) (l : List FlowNo) : (s.setReadyList p q l).flows = s.flows := by cases p <;> rfl
@[simp] theorem State.setReadyList_buffer (s : State) (p : Port) (q : Priority) (l : List FlowNo) : (s.setReadyList p q l).buffer = s.buffer := by cases p <;> rfl
@[simp] theorem State.setReadyList_calendar (s : State) (p : Port) (q : Priority) (l : List FlowNo) : (s.setReadyList p q l).calendar = s.calendar := by cases p <;> rfl
@[simp] theorem State.setReadyList_time (s : State) (p : Port) (q : Priority) (l : List FlowNo) : (s.setReadyList p q l).time = s.time := by cases p <;> rfl
@[simp] theorem State.setReadyList_mgmt (s : State) (p : Port) (q : Priority) (l : List FlowNo) : (s.setReadyList p q l).mgmt = s.mgmt := by cases p <;> rfl
@[simp] theorem State.setReadyList_notices (s : State) (p : Port) (q : Priority) (l : List FlowNo) : (s.setReadyList p q l).notices = s.notices := by cases p <;> rfl
@[simp] theorem State.setReadyList_counters (s : State) (p : Port) (q : Priority) (l : List FlowNo) : (s.setReadyList p q l).counters = s.counters := by cases p <;> rfl
@[simp] theorem State.setReadyList_probe (s : State) (p : Port) (q : Priority) (l : List FlowNo) : (s.setReadyList p q l).probe = s.probe := by cases p <;> rfl

/-! ## setCalendarSlot -/

@[simp] theorem State.setCalendarSlot_pending (s : State) (i : Fin 1024) (l : List FlowNo) : (s.setCalendarSlot i l).pending = s.pending := rfl
@[simp] theorem State.setCalendarSlot_resetHeld (s : State) (i : Fin 1024) (l : List FlowNo) : (s.setCalendarSlot i l).resetHeld = s.resetHeld := rfl
@[simp] theorem State.setCalendarSlot_portT (s : State) (i : Fin 1024) (l : List FlowNo) : (s.setCalendarSlot i l).portT = s.portT := rfl
@[simp] theorem State.setCalendarSlot_portF (s : State) (i : Fin 1024) (l : List FlowNo) : (s.setCalendarSlot i l).portF = s.portF := rfl
@[simp] theorem State.setCalendarSlot_map (s : State) (i : Fin 1024) (l : List FlowNo) : (s.setCalendarSlot i l).map = s.map := rfl
@[simp] theorem State.setCalendarSlot_flows (s : State) (i : Fin 1024) (l : List FlowNo) : (s.setCalendarSlot i l).flows = s.flows := rfl
@[simp] theorem State.setCalendarSlot_buffer (s : State) (i : Fin 1024) (l : List FlowNo) : (s.setCalendarSlot i l).buffer = s.buffer := rfl
@[simp] theorem State.setCalendarSlot_calendar (s : State) (i : Fin 1024) (l : List FlowNo) : (s.setCalendarSlot i l).calendar = s.calendar.set i.val l i.isLt := rfl
@[simp] theorem State.setCalendarSlot_ready (s : State) (i : Fin 1024) (l : List FlowNo) : (s.setCalendarSlot i l).ready = s.ready := rfl
@[simp] theorem State.setCalendarSlot_time (s : State) (i : Fin 1024) (l : List FlowNo) : (s.setCalendarSlot i l).time = s.time := rfl
@[simp] theorem State.setCalendarSlot_mgmt (s : State) (i : Fin 1024) (l : List FlowNo) : (s.setCalendarSlot i l).mgmt = s.mgmt := rfl
@[simp] theorem State.setCalendarSlot_notices (s : State) (i : Fin 1024) (l : List FlowNo) : (s.setCalendarSlot i l).notices = s.notices := rfl
@[simp] theorem State.setCalendarSlot_counters (s : State) (i : Fin 1024) (l : List FlowNo) : (s.setCalendarSlot i l).counters = s.counters := rfl
@[simp] theorem State.setCalendarSlot_probe (s : State) (i : Fin 1024) (l : List FlowNo) : (s.setCalendarSlot i l).probe = s.probe := rfl

/-! ## countFlow -/

@[simp] theorem State.countFlow_pending (s : State) (f : FlowNo) (g : FlowCounters → FlowCounters) : (s.countFlow f g).pending = s.pending := rfl
@[simp] theorem State.countFlow_resetHeld (s : State) (f : FlowNo) (g : FlowCounters → FlowCounters) : (s.countFlow f g).resetHeld = s.resetHeld := rfl
@[simp] theorem State.countFlow_portT (s : State) (f : FlowNo) (g : FlowCounters → FlowCounters) : (s.countFlow f g).portT = s.portT := rfl
@[simp] theorem State.countFlow_portF (s : State) (f : FlowNo) (g : FlowCounters → FlowCounters) : (s.countFlow f g).portF = s.portF := rfl
@[simp] theorem State.countFlow_map (s : State) (f : FlowNo) (g : FlowCounters → FlowCounters) : (s.countFlow f g).map = s.map := rfl
@[simp] theorem State.countFlow_flows (s : State) (f : FlowNo) (g : FlowCounters → FlowCounters) : (s.countFlow f g).flows = s.flows := rfl
@[simp] theorem State.countFlow_buffer (s : State) (f : FlowNo) (g : FlowCounters → FlowCounters) : (s.countFlow f g).buffer = s.buffer := rfl
@[simp] theorem State.countFlow_calendar (s : State) (f : FlowNo) (g : FlowCounters → FlowCounters) : (s.countFlow f g).calendar = s.calendar := rfl
@[simp] theorem State.countFlow_ready (s : State) (f : FlowNo) (g : FlowCounters → FlowCounters) : (s.countFlow f g).ready = s.ready := rfl
@[simp] theorem State.countFlow_time (s : State) (f : FlowNo) (g : FlowCounters → FlowCounters) : (s.countFlow f g).time = s.time := rfl
@[simp] theorem State.countFlow_mgmt (s : State) (f : FlowNo) (g : FlowCounters → FlowCounters) : (s.countFlow f g).mgmt = s.mgmt := rfl
@[simp] theorem State.countFlow_notices (s : State) (f : FlowNo) (g : FlowCounters → FlowCounters) : (s.countFlow f g).notices = s.notices := rfl
@[simp] theorem State.countFlow_probe (s : State) (f : FlowNo) (g : FlowCounters → FlowCounters) : (s.countFlow f g).probe = s.probe := rfl

/-! ## countPort -/

@[simp] theorem State.countPort_pending (s : State) (p : Port) (g : PortCounters → PortCounters) : (s.countPort p g).pending = s.pending := by cases p <;> rfl
@[simp] theorem State.countPort_resetHeld (s : State) (p : Port) (g : PortCounters → PortCounters) : (s.countPort p g).resetHeld = s.resetHeld := by cases p <;> rfl
@[simp] theorem State.countPort_portT (s : State) (p : Port) (g : PortCounters → PortCounters) : (s.countPort p g).portT = s.portT := by cases p <;> rfl
@[simp] theorem State.countPort_portF (s : State) (p : Port) (g : PortCounters → PortCounters) : (s.countPort p g).portF = s.portF := by cases p <;> rfl
@[simp] theorem State.countPort_map (s : State) (p : Port) (g : PortCounters → PortCounters) : (s.countPort p g).map = s.map := by cases p <;> rfl
@[simp] theorem State.countPort_flows (s : State) (p : Port) (g : PortCounters → PortCounters) : (s.countPort p g).flows = s.flows := by cases p <;> rfl
@[simp] theorem State.countPort_buffer (s : State) (p : Port) (g : PortCounters → PortCounters) : (s.countPort p g).buffer = s.buffer := by cases p <;> rfl
@[simp] theorem State.countPort_calendar (s : State) (p : Port) (g : PortCounters → PortCounters) : (s.countPort p g).calendar = s.calendar := by cases p <;> rfl
@[simp] theorem State.countPort_ready (s : State) (p : Port) (g : PortCounters → PortCounters) : (s.countPort p g).ready = s.ready := by cases p <;> rfl
@[simp] theorem State.countPort_time (s : State) (p : Port) (g : PortCounters → PortCounters) : (s.countPort p g).time = s.time := by cases p <;> rfl
@[simp] theorem State.countPort_mgmt (s : State) (p : Port) (g : PortCounters → PortCounters) : (s.countPort p g).mgmt = s.mgmt := by cases p <;> rfl
@[simp] theorem State.countPort_notices (s : State) (p : Port) (g : PortCounters → PortCounters) : (s.countPort p g).notices = s.notices := by cases p <;> rfl
@[simp] theorem State.countPort_probe (s : State) (p : Port) (g : PortCounters → PortCounters) : (s.countPort p g).probe = s.probe := by cases p <;> rfl

/-! ## post -/

@[simp] theorem State.post_pending (s : State) (n : Notice) (d : Detail) : (s.post n d).pending = s.pending := rfl
@[simp] theorem State.post_resetHeld (s : State) (n : Notice) (d : Detail) : (s.post n d).resetHeld = s.resetHeld := rfl
@[simp] theorem State.post_portT (s : State) (n : Notice) (d : Detail) : (s.post n d).portT = s.portT := rfl
@[simp] theorem State.post_portF (s : State) (n : Notice) (d : Detail) : (s.post n d).portF = s.portF := rfl
@[simp] theorem State.post_map (s : State) (n : Notice) (d : Detail) : (s.post n d).map = s.map := rfl
@[simp] theorem State.post_flows (s : State) (n : Notice) (d : Detail) : (s.post n d).flows = s.flows := rfl
@[simp] theorem State.post_buffer (s : State) (n : Notice) (d : Detail) : (s.post n d).buffer = s.buffer := rfl
@[simp] theorem State.post_calendar (s : State) (n : Notice) (d : Detail) : (s.post n d).calendar = s.calendar := rfl
@[simp] theorem State.post_ready (s : State) (n : Notice) (d : Detail) : (s.post n d).ready = s.ready := rfl
@[simp] theorem State.post_time (s : State) (n : Notice) (d : Detail) : (s.post n d).time = s.time := rfl
@[simp] theorem State.post_mgmt (s : State) (n : Notice) (d : Detail) : (s.post n d).mgmt = s.mgmt := rfl
@[simp] theorem State.post_notices (s : State) (n : Notice) (d : Detail) : (s.post n d).notices = s.notices.post n s.time.now d := rfl
@[simp] theorem State.post_counters (s : State) (n : Notice) (d : Detail) : (s.post n d).counters = s.counters := rfl
@[simp] theorem State.post_probe (s : State) (n : Notice) (d : Detail) : (s.post n d).probe = s.probe := rfl

/-! ## Equality, field by field -/

/-- Two states whose fields agree are equal. -/
theorem State.eq_of_fields {s t : State}
    (h0 : s.pending = t.pending) (h1 : s.resetHeld = t.resetHeld) (h2 : s.portT = t.portT) (h3 : s.portF = t.portF)
    (h4 : s.map = t.map) (h5 : s.flows = t.flows) (h6 : s.buffer = t.buffer) (h7 : s.calendar = t.calendar)
    (h8 : s.ready = t.ready) (h9 : s.time = t.time) (h10 : s.mgmt = t.mgmt) (h11 : s.notices = t.notices)
    (h12 : s.counters = t.counters) (h13 : s.probe = t.probe) : s = t := by
  cases s
  cases t
  simp_all

/-! ## Reading what was written -/

theorem vector_get_set_self {α : Type} {n : Nat} (v : Vector α n) (i : Fin n) (x : α) : (v.set i.val x i.isLt).get i = x := by
  rw [Vector.get_eq_getElem]
  simp

theorem vector_get_set_other {α : Type} {n : Nat} (v : Vector α n) (i j : Fin n) (x : α) (h : j ≠ i) :
    (v.set i.val x i.isLt).get j = v.get j := by
  have hv : i.val ≠ j.val := fun e => h (Fin.ext e.symm)
  rw [Vector.get_eq_getElem, Vector.get_eq_getElem]
  simp [hv]

@[simp] theorem State.port_setPort_self (s : State) (p : Port) (x : LinkPort) : (s.setPort p x).port p = x := by cases p <;> rfl

theorem State.port_setPort_other (s : State) (p p' : Port) (x : LinkPort) (h : p' ≠ p) : (s.setPort p x).port p' = s.port p' := by
  cases p <;> cases p' <;> first | rfl | exact absurd rfl h

@[simp] theorem State.flow_setFlow_self (s : State) (f : FlowNo) (r : FlowRecord) : (s.setFlow f r).flow f = r :=
  vector_get_set_self _ f r

theorem State.flow_setFlow_other (s : State) (f g : FlowNo) (r : FlowRecord) (h : g ≠ f) : (s.setFlow f r).flow g = s.flow g :=
  vector_get_set_other _ f g r h

@[simp] theorem State.flowCounters_setFlowCounters_self (s : State) (f : FlowNo) (c : FlowCounters) :
    (s.setFlowCounters f c).flowCounters f = c :=
  vector_get_set_self _ f c

theorem State.flowCounters_setFlowCounters_other (s : State) (f g : FlowNo) (c : FlowCounters) (h : g ≠ f) :
    (s.setFlowCounters f c).flowCounters g = s.flowCounters g :=
  vector_get_set_other _ f g c h

@[simp] theorem State.portCounters_setPortCounters_self (s : State) (p : Port) (c : PortCounters) :
    (s.setPortCounters p c).portCounters p = c := by cases p <;> rfl

theorem State.portCounters_setPortCounters_other (s : State) (p p' : Port) (c : PortCounters) (h : p' ≠ p) :
    (s.setPortCounters p c).portCounters p' = s.portCounters p' := by
  cases p <;> cases p' <;> first | rfl | exact absurd rfl h

@[simp] theorem State.portCounters_setFlowCounters (s : State) (f : FlowNo) (c : FlowCounters) (p : Port) :
    (s.setFlowCounters f c).portCounters p = s.portCounters p := by cases p <;> rfl

@[simp] theorem State.flowCounters_setPortCounters (s : State) (f : FlowNo) (c : PortCounters) (p : Port) :
    (s.setPortCounters p c).flowCounters f = s.flowCounters f := by cases p <;> rfl

@[simp] theorem State.readyList_setReadyList_self (s : State) (p : Port) (q : Priority) (l : List FlowNo) :
    (s.setReadyList p q l).readyList p q = l := by
  cases p <;> exact vector_get_set_self _ q l

theorem State.readyList_setReadyList_other (s : State) (p p' : Port) (q q' : Priority) (l : List FlowNo)
    (h : p' ≠ p ∨ q' ≠ q) : (s.setReadyList p q l).readyList p' q' = s.readyList p' q' := by
  cases p <;> cases p' <;> first | rfl | exact vector_get_set_other _ q q' l (h.resolve_left fun hp => hp rfl)

@[simp] theorem State.calendarSlot_setCalendarSlot_self (s : State) (i : Fin 1024) (l : List FlowNo) :
    (s.setCalendarSlot i l).calendarSlot i = l :=
  vector_get_set_self _ i l

theorem State.calendarSlot_setCalendarSlot_other (s : State) (i j : Fin 1024) (l : List FlowNo) (h : j ≠ i) :
    (s.setCalendarSlot i l).calendarSlot j = s.calendarSlot j :=
  vector_get_set_other _ i j l h

end Sys2Proof.Machine
end

