-- ==== Sys2Proof/Laws/Frames.lean ====
section
/-! SUPPORT. What each shared operation leaves alone, one lemma for each: the fields of the state it never writes. simp splits each
conjunction, so these compose. -/

namespace Sys2Proof.Machine

/-- A flow that becomes READY changes its record and a ready list. -/
@[simp] theorem State.makeReady_frame (s : State) (f : FlowNo) :
    (s.makeReady f).pending = s.pending ∧ (s.makeReady f).resetHeld = s.resetHeld ∧ (s.makeReady f).portT = s.portT ∧
    (s.makeReady f).portF = s.portF ∧ (s.makeReady f).map = s.map ∧ (s.makeReady f).buffer = s.buffer ∧
    (s.makeReady f).calendar = s.calendar ∧ (s.makeReady f).time = s.time ∧ (s.makeReady f).mgmt = s.mgmt ∧
    (s.makeReady f).notices = s.notices ∧ (s.makeReady f).counters = s.counters ∧ (s.makeReady f).probe = s.probe := by
  simp [State.makeReady]

/-- A flow that becomes WAITING changes its record and a calendar slot. -/
@[simp] theorem State.makeWaiting_frame (s : State) (f : FlowNo) :
    (s.makeWaiting f).pending = s.pending ∧ (s.makeWaiting f).resetHeld = s.resetHeld ∧
    (s.makeWaiting f).portT = s.portT ∧ (s.makeWaiting f).portF = s.portF ∧ (s.makeWaiting f).map = s.map ∧
    (s.makeWaiting f).buffer = s.buffer ∧ (s.makeWaiting f).ready = s.ready ∧ (s.makeWaiting f).time = s.time ∧
    (s.makeWaiting f).mgmt = s.mgmt ∧ (s.makeWaiting f).notices = s.notices ∧ (s.makeWaiting f).counters = s.counters ∧
    (s.makeWaiting f).probe = s.probe := by
  simp [State.makeWaiting]

/-- A scheduling state alone changes its record. -/
@[simp] theorem State.setSched_frame (s : State) (f : FlowNo) (c : Sched) :
    (s.setSched f c).pending = s.pending ∧ (s.setSched f c).resetHeld = s.resetHeld ∧ (s.setSched f c).portT = s.portT ∧
    (s.setSched f c).portF = s.portF ∧ (s.setSched f c).map = s.map ∧ (s.setSched f c).buffer = s.buffer ∧
    (s.setSched f c).calendar = s.calendar ∧ (s.setSched f c).ready = s.ready ∧ (s.setSched f c).time = s.time ∧
    (s.setSched f c).mgmt = s.mgmt ∧ (s.setSched f c).notices = s.notices ∧ (s.setSched f c).counters = s.counters ∧
    (s.setSched f c).probe = s.probe := by
  simp [State.setSched]

/-- A removal changes the structure that held the flow. -/
@[simp] theorem State.unschedule_frame (s : State) (f : FlowNo) :
    (s.unschedule f).pending = s.pending ∧ (s.unschedule f).resetHeld = s.resetHeld ∧ (s.unschedule f).portT = s.portT ∧
    (s.unschedule f).portF = s.portF ∧ (s.unschedule f).map = s.map ∧ (s.unschedule f).flows = s.flows ∧
    (s.unschedule f).buffer = s.buffer ∧ (s.unschedule f).time = s.time ∧ (s.unschedule f).mgmt = s.mgmt ∧
    (s.unschedule f).notices = s.notices ∧ (s.unschedule f).counters = s.counters ∧ (s.unschedule f).probe = s.probe := by
  unfold State.unschedule
  dsimp only
  split <;> simp

/-- A placement changes the flow's record and the structures. -/
@[simp] theorem State.place_frame (s : State) (f : FlowNo) :
    (s.place f).pending = s.pending ∧ (s.place f).resetHeld = s.resetHeld ∧ (s.place f).portT = s.portT ∧
    (s.place f).portF = s.portF ∧ (s.place f).map = s.map ∧ (s.place f).buffer = s.buffer ∧ (s.place f).time = s.time ∧
    (s.place f).mgmt = s.mgmt ∧ (s.place f).notices = s.notices ∧ (s.place f).counters = s.counters ∧
    (s.place f).probe = s.probe := by
  unfold State.place
  dsimp only
  split_ifs <;> simp

/-- A rescheduling changes the flow's record and the structures. -/
@[simp] theorem State.reschedule_frame (s : State) (f : FlowNo) :
    (s.reschedule f).pending = s.pending ∧ (s.reschedule f).resetHeld = s.resetHeld ∧ (s.reschedule f).portT = s.portT ∧
    (s.reschedule f).portF = s.portF ∧ (s.reschedule f).map = s.map ∧ (s.reschedule f).buffer = s.buffer ∧
    (s.reschedule f).time = s.time ∧ (s.reschedule f).mgmt = s.mgmt ∧ (s.reschedule f).notices = s.notices ∧
    (s.reschedule f).counters = s.counters ∧ (s.reschedule f).probe = s.probe := by
  unfold State.reschedule
  dsimp only
  split_ifs <;> simp

/-- A level test changes the levels and the notices. -/
@[simp] theorem State.raiseLevel_frame (s : State) (l : Level) :
    (s.raiseLevel l).pending = s.pending ∧ (s.raiseLevel l).resetHeld = s.resetHeld ∧ (s.raiseLevel l).portT = s.portT ∧
    (s.raiseLevel l).portF = s.portF ∧ (s.raiseLevel l).map = s.map ∧ (s.raiseLevel l).flows = s.flows ∧
    (s.raiseLevel l).calendar = s.calendar ∧ (s.raiseLevel l).ready = s.ready ∧ (s.raiseLevel l).time = s.time ∧
    (s.raiseLevel l).mgmt = s.mgmt ∧ (s.raiseLevel l).counters = s.counters ∧ (s.raiseLevel l).probe = s.probe := by
  unfold State.raiseLevel
  split_ifs <;> simp

/-- A level test changes the levels and the notices. -/
@[simp] theorem State.clearLevel_frame (s : State) (l : Level) :
    (s.clearLevel l).pending = s.pending ∧ (s.clearLevel l).resetHeld = s.resetHeld ∧ (s.clearLevel l).portT = s.portT ∧
    (s.clearLevel l).portF = s.portF ∧ (s.clearLevel l).map = s.map ∧ (s.clearLevel l).flows = s.flows ∧
    (s.clearLevel l).calendar = s.calendar ∧ (s.clearLevel l).ready = s.ready ∧ (s.clearLevel l).time = s.time ∧
    (s.clearLevel l).mgmt = s.mgmt ∧ (s.clearLevel l).counters = s.counters ∧ (s.clearLevel l).probe = s.probe := by
  unfold State.clearLevel
  split_ifs <;> simp

/-- A level test changes the levels and the notices. -/
@[simp] theorem State.reviseUp_frame (s : State) (l : Level) :
    (s.reviseUp l).pending = s.pending ∧ (s.reviseUp l).resetHeld = s.resetHeld ∧ (s.reviseUp l).portT = s.portT ∧
    (s.reviseUp l).portF = s.portF ∧ (s.reviseUp l).map = s.map ∧ (s.reviseUp l).flows = s.flows ∧
    (s.reviseUp l).calendar = s.calendar ∧ (s.reviseUp l).ready = s.ready ∧ (s.reviseUp l).time = s.time ∧
    (s.reviseUp l).mgmt = s.mgmt ∧ (s.reviseUp l).counters = s.counters ∧ (s.reviseUp l).probe = s.probe := by
  unfold State.reviseUp
  split_ifs <;> simp

/-- A level test changes the levels and the notices. -/
@[simp] theorem State.reviseDown_frame (s : State) (l : Level) :
    (s.reviseDown l).pending = s.pending ∧ (s.reviseDown l).resetHeld = s.resetHeld ∧ (s.reviseDown l).portT = s.portT ∧
    (s.reviseDown l).portF = s.portF ∧ (s.reviseDown l).map = s.map ∧ (s.reviseDown l).flows = s.flows ∧
    (s.reviseDown l).calendar = s.calendar ∧ (s.reviseDown l).ready = s.ready ∧ (s.reviseDown l).time = s.time ∧
    (s.reviseDown l).mgmt = s.mgmt ∧ (s.reviseDown l).counters = s.counters ∧ (s.reviseDown l).probe = s.probe := by
  unfold State.reviseDown
  split_ifs <;> simp

/-- The level tests change the levels and the notices. -/
@[simp] theorem State.raiseLevels_frame (s : State) :
    (s.raiseLevels).pending = s.pending ∧ (s.raiseLevels).resetHeld = s.resetHeld ∧ (s.raiseLevels).portT = s.portT ∧
    (s.raiseLevels).portF = s.portF ∧ (s.raiseLevels).map = s.map ∧ (s.raiseLevels).flows = s.flows ∧
    (s.raiseLevels).calendar = s.calendar ∧ (s.raiseLevels).ready = s.ready ∧ (s.raiseLevels).time = s.time ∧
    (s.raiseLevels).mgmt = s.mgmt ∧ (s.raiseLevels).counters = s.counters ∧ (s.raiseLevels).probe = s.probe := by
  simp [State.raiseLevels]

/-- The level tests change the levels and the notices. -/
@[simp] theorem State.clearLevels_frame (s : State) :
    (s.clearLevels).pending = s.pending ∧ (s.clearLevels).resetHeld = s.resetHeld ∧ (s.clearLevels).portT = s.portT ∧
    (s.clearLevels).portF = s.portF ∧ (s.clearLevels).map = s.map ∧ (s.clearLevels).flows = s.flows ∧
    (s.clearLevels).calendar = s.calendar ∧ (s.clearLevels).ready = s.ready ∧ (s.clearLevels).time = s.time ∧
    (s.clearLevels).mgmt = s.mgmt ∧ (s.clearLevels).counters = s.counters ∧ (s.clearLevels).probe = s.probe := by
  simp [State.clearLevels]

/-- The level tests change the levels and the notices. -/
@[simp] theorem State.reviseLevels_frame (s : State) :
    (s.reviseLevels).pending = s.pending ∧ (s.reviseLevels).resetHeld = s.resetHeld ∧ (s.reviseLevels).portT = s.portT ∧
    (s.reviseLevels).portF = s.portF ∧ (s.reviseLevels).map = s.map ∧ (s.reviseLevels).flows = s.flows ∧
    (s.reviseLevels).calendar = s.calendar ∧ (s.reviseLevels).ready = s.ready ∧ (s.reviseLevels).time = s.time ∧
    (s.reviseLevels).mgmt = s.mgmt ∧ (s.reviseLevels).counters = s.counters ∧ (s.reviseLevels).probe = s.probe := by
  simp [State.reviseLevels]

/-- A due-time update changes the flow's record and may post. -/
@[simp] theorem State.dueUpdate_frame (s : State) (f : FlowNo) (t : Stamp) :
    (s.dueUpdate f t).pending = s.pending ∧ (s.dueUpdate f t).resetHeld = s.resetHeld ∧
    (s.dueUpdate f t).portT = s.portT ∧ (s.dueUpdate f t).portF = s.portF ∧ (s.dueUpdate f t).map = s.map ∧
    (s.dueUpdate f t).buffer = s.buffer ∧ (s.dueUpdate f t).calendar = s.calendar ∧ (s.dueUpdate f t).ready = s.ready ∧
    (s.dueUpdate f t).time = s.time ∧ (s.dueUpdate f t).mgmt = s.mgmt ∧ (s.dueUpdate f t).counters = s.counters ∧
    (s.dueUpdate f t).probe = s.probe := by
  unfold State.dueUpdate
  dsimp only
  split_ifs <;> simp

/-- A promotion changes the flow's record and the structures. -/
@[simp] theorem State.promoteNow_frame (s : State) (f : FlowNo) :
    (s.promoteNow f).pending = s.pending ∧ (s.promoteNow f).resetHeld = s.resetHeld ∧ (s.promoteNow f).portT = s.portT ∧
    (s.promoteNow f).portF = s.portF ∧ (s.promoteNow f).map = s.map ∧ (s.promoteNow f).buffer = s.buffer ∧
    (s.promoteNow f).time = s.time ∧ (s.promoteNow f).mgmt = s.mgmt ∧ (s.promoteNow f).notices = s.notices ∧
    (s.promoteNow f).counters = s.counters ∧ (s.promoteNow f).probe = s.probe := by
  simp [State.promoteNow]

/-- A stored cell changes the buffer and the flow's queue. -/
@[simp] theorem State.storeCell_frame (s : State) (f : FlowNo) (slot : SlotNo) (rest : List SlotNo) (c : StoredCell) :
    (s.storeCell f slot rest c).pending = s.pending ∧ (s.storeCell f slot rest c).resetHeld = s.resetHeld ∧
    (s.storeCell f slot rest c).portT = s.portT ∧ (s.storeCell f slot rest c).portF = s.portF ∧
    (s.storeCell f slot rest c).map = s.map ∧ (s.storeCell f slot rest c).calendar = s.calendar ∧
    (s.storeCell f slot rest c).ready = s.ready ∧ (s.storeCell f slot rest c).time = s.time ∧
    (s.storeCell f slot rest c).mgmt = s.mgmt ∧ (s.storeCell f slot rest c).notices = s.notices ∧
    (s.storeCell f slot rest c).counters = s.counters ∧ (s.storeCell f slot rest c).probe = s.probe := by
  simp [State.storeCell]

/-- The settling of an enqueue changes the flow, the structures and the notices. -/
@[simp] theorem State.settle_frame (s : State) (f : FlowNo) (r : FlowRecord) :
    (s.settle f r).pending = s.pending ∧ (s.settle f r).resetHeld = s.resetHeld ∧ (s.settle f r).portT = s.portT ∧
    (s.settle f r).portF = s.portF ∧ (s.settle f r).map = s.map ∧ (s.settle f r).buffer = s.buffer ∧
    (s.settle f r).time = s.time ∧ (s.settle f r).mgmt = s.mgmt ∧ (s.settle f r).counters = s.counters ∧
    (s.settle f r).probe = s.probe := by
  unfold State.settle
  dsimp only
  split_ifs <;> simp

/-- What an enqueue leaves alone. -/
@[simp] theorem State.enqueue_frame (s : State) (f : FlowNo) (c : StoredCell) :
    (s.enqueue f c).pending = s.pending ∧ (s.enqueue f c).resetHeld = s.resetHeld ∧ (s.enqueue f c).portT = s.portT ∧
    (s.enqueue f c).portF = s.portF ∧ (s.enqueue f c).map = s.map ∧ (s.enqueue f c).time = s.time ∧
    (s.enqueue f c).mgmt = s.mgmt ∧ (s.enqueue f c).probe = s.probe := by
  unfold State.enqueue
  split <;> simp

/-- What an admission leaves alone. -/
@[simp] theorem State.admitCell_frame (s : State) (f : FlowNo) (c : StoredCell) :
    (s.admitCell f c).pending = s.pending ∧ (s.admitCell f c).resetHeld = s.resetHeld ∧ (s.admitCell f c).portT = s.portT ∧
    (s.admitCell f c).portF = s.portF ∧ (s.admitCell f c).map = s.map ∧ (s.admitCell f c).time = s.time ∧
    (s.admitCell f c).mgmt = s.mgmt ∧ (s.admitCell f c).probe = s.probe := by
  unfold State.admitCell
  split <;> simp

/-- A capture changes the probe and the notices. -/
@[simp] theorem State.capture_frame (s : State) (f : FlowNo) (v : Verdict) (o : Admission) :
    (s.capture f v o).pending = s.pending ∧ (s.capture f v o).resetHeld = s.resetHeld ∧
    (s.capture f v o).portT = s.portT ∧ (s.capture f v o).portF = s.portF ∧ (s.capture f v o).map = s.map ∧
    (s.capture f v o).flows = s.flows ∧ (s.capture f v o).buffer = s.buffer ∧ (s.capture f v o).calendar = s.calendar ∧
    (s.capture f v o).ready = s.ready ∧ (s.capture f v o).time = s.time ∧ (s.capture f v o).mgmt = s.mgmt ∧
    (s.capture f v o).counters = s.counters := by
  unfold State.capture
  dsimp only
  split_ifs <;> simp

/-- What a delivered user cell leaves alone. -/
@[simp] theorem State.deliver_frame (s : State) (f : FlowNo) (c : StoredCell) :
    (s.deliver f c).pending = s.pending ∧ (s.deliver f c).resetHeld = s.resetHeld ∧ (s.deliver f c).portT = s.portT ∧
    (s.deliver f c).portF = s.portF ∧ (s.deliver f c).map = s.map ∧ (s.deliver f c).time = s.time ∧
    (s.deliver f c).mgmt = s.mgmt := by
  simp [State.deliver]

/-- An offered request changes the Request Queue or a counter. -/
@[simp] theorem State.offerRequest_frame (s : State) (r : Payload) :
    (s.offerRequest r).pending = s.pending ∧ (s.offerRequest r).resetHeld = s.resetHeld ∧
    (s.offerRequest r).portT = s.portT ∧ (s.offerRequest r).portF = s.portF ∧ (s.offerRequest r).map = s.map ∧
    (s.offerRequest r).flows = s.flows ∧ (s.offerRequest r).buffer = s.buffer ∧
    (s.offerRequest r).calendar = s.calendar ∧ (s.offerRequest r).ready = s.ready ∧ (s.offerRequest r).time = s.time ∧
    (s.offerRequest r).notices = s.notices ∧ (s.offerRequest r).probe = s.probe := by
  unfold State.offerRequest
  split_ifs <;> simp

/-- What a received cell leaves alone. -/
@[simp] theorem State.receive_frame (s : State) (p : Port) (c : Cell) :
    (s.receive p c).pending = s.pending ∧ (s.receive p c).resetHeld = s.resetHeld ∧ (s.receive p c).portT = s.portT ∧
    (s.receive p c).portF = s.portF ∧ (s.receive p c).map = s.map ∧ (s.receive p c).time = s.time := by
  unfold State.receive
  dsimp only
  repeat' split
  all_goals simp

/-- What an arrival leaves alone. -/
@[simp] theorem State.arrive_frame (s : State) (p : Port) (cell : List Byte) :
    (s.arrive p cell).pending = s.pending ∧ (s.arrive p cell).resetHeld = s.resetHeld ∧
    (s.arrive p cell).portT = s.portT ∧ (s.arrive p cell).portF = s.portF ∧ (s.arrive p cell).map = s.map ∧
    (s.arrive p cell).time = s.time := by
  unfold State.arrive
  split_ifs <;> simp

/-- The transmitter's cell is in its port. -/
@[simp] theorem State.transmit_frame (s : State) (p : Port) (c : Cell) :
    (s.transmit p c).pending = s.pending ∧ (s.transmit p c).resetHeld = s.resetHeld ∧ (s.transmit p c).map = s.map ∧
    (s.transmit p c).flows = s.flows ∧ (s.transmit p c).buffer = s.buffer ∧ (s.transmit p c).calendar = s.calendar ∧
    (s.transmit p c).ready = s.ready ∧ (s.transmit p c).time = s.time ∧ (s.transmit p c).mgmt = s.mgmt ∧
    (s.transmit p c).notices = s.notices ∧ (s.transmit p c).counters = s.counters ∧ (s.transmit p c).probe = s.probe := by
  simp [State.transmit]

/-- What the taking of a head cell leaves alone. -/
@[simp] theorem State.takeHead_frame (s : State) (p : Port) (q : Priority) (f : FlowNo) (slot : SlotNo) (rest : List SlotNo) :
    (s.takeHead p q f slot rest).pending = s.pending ∧ (s.takeHead p q f slot rest).resetHeld = s.resetHeld ∧
    (s.takeHead p q f slot rest).portT = s.portT ∧ (s.takeHead p q f slot rest).portF = s.portF ∧
    (s.takeHead p q f slot rest).map = s.map ∧ (s.takeHead p q f slot rest).calendar = s.calendar ∧
    (s.takeHead p q f slot rest).time = s.time ∧ (s.takeHead p q f slot rest).mgmt = s.mgmt ∧
    (s.takeHead p q f slot rest).counters = s.counters ∧ (s.takeHead p q f slot rest).probe = s.probe := by
  simp [State.takeHead]

/-- The arithmetic of a departure changes the flow's record and may post. -/
@[simp] theorem State.departureArithmetic_frame (s : State) (f : FlowNo) :
    (s.departureArithmetic f).pending = s.pending ∧ (s.departureArithmetic f).resetHeld = s.resetHeld ∧
    (s.departureArithmetic f).portT = s.portT ∧ (s.departureArithmetic f).portF = s.portF ∧
    (s.departureArithmetic f).map = s.map ∧ (s.departureArithmetic f).buffer = s.buffer ∧
    (s.departureArithmetic f).calendar = s.calendar ∧ (s.departureArithmetic f).ready = s.ready ∧
    (s.departureArithmetic f).time = s.time ∧ (s.departureArithmetic f).mgmt = s.mgmt ∧
    (s.departureArithmetic f).counters = s.counters ∧ (s.departureArithmetic f).probe = s.probe := by
  unfold State.departureArithmetic
  split_ifs <;> simp

/-- The end of a drain changes the flow's record and posts. -/
@[simp] theorem State.finishDrain_frame (s : State) (f : FlowNo) :
    (s.finishDrain f).pending = s.pending ∧ (s.finishDrain f).resetHeld = s.resetHeld ∧
    (s.finishDrain f).portT = s.portT ∧ (s.finishDrain f).portF = s.portF ∧ (s.finishDrain f).map = s.map ∧
    (s.finishDrain f).buffer = s.buffer ∧ (s.finishDrain f).calendar = s.calendar ∧ (s.finishDrain f).ready = s.ready ∧
    (s.finishDrain f).time = s.time ∧ (s.finishDrain f).mgmt = s.mgmt ∧ (s.finishDrain f).counters = s.counters ∧
    (s.finishDrain f).probe = s.probe := by
  simp [State.finishDrain]

/-- What the rescheduling of a departure leaves alone. -/
@[simp] theorem State.afterDeparture_frame (s : State) (f : FlowNo) :
    (s.afterDeparture f).pending = s.pending ∧ (s.afterDeparture f).resetHeld = s.resetHeld ∧
    (s.afterDeparture f).portT = s.portT ∧ (s.afterDeparture f).portF = s.portF ∧ (s.afterDeparture f).map = s.map ∧
    (s.afterDeparture f).buffer = s.buffer ∧ (s.afterDeparture f).time = s.time ∧ (s.afterDeparture f).mgmt = s.mgmt ∧
    (s.afterDeparture f).counters = s.counters ∧ (s.afterDeparture f).probe = s.probe := by
  unfold State.afterDeparture
  split_ifs <;> simp

/-- What a departure leaves alone. -/
@[simp] theorem State.depart_frame (s : State) (p : Port) (q : Priority) (f : FlowNo) :
    (s.depart p q f).pending = s.pending ∧ (s.depart p q f).resetHeld = s.resetHeld ∧ (s.depart p q f).map = s.map ∧
    (s.depart p q f).time = s.time ∧ (s.depart p q f).mgmt = s.mgmt ∧ (s.depart p q f).probe = s.probe := by
  unfold State.depart
  split <;> simp

/-- What the sending of a response leaves alone. -/
@[simp] theorem State.sendResponse_frame (s : State) (r : Response) (rest : List Response) :
    (s.sendResponse r rest).pending = s.pending ∧ (s.sendResponse r rest).resetHeld = s.resetHeld ∧
    (s.sendResponse r rest).map = s.map ∧ (s.sendResponse r rest).flows = s.flows ∧
    (s.sendResponse r rest).buffer = s.buffer ∧ (s.sendResponse r rest).calendar = s.calendar ∧
    (s.sendResponse r rest).ready = s.ready ∧ (s.sendResponse r rest).time = s.time ∧
    (s.sendResponse r rest).notices = s.notices ∧ (s.sendResponse r rest).probe = s.probe := by
  simp [State.sendResponse]

/-- What the sending of a notice leaves alone. -/
@[simp] theorem State.sendNotice_frame (s : State) (r : NoticeRecord) :
    (s.sendNotice r).pending = s.pending ∧ (s.sendNotice r).resetHeld = s.resetHeld ∧ (s.sendNotice r).map = s.map ∧
    (s.sendNotice r).flows = s.flows ∧ (s.sendNotice r).buffer = s.buffer ∧ (s.sendNotice r).calendar = s.calendar ∧
    (s.sendNotice r).ready = s.ready ∧ (s.sendNotice r).time = s.time ∧ (s.sendNotice r).mgmt = s.mgmt ∧
    (s.sendNotice r).probe = s.probe := by
  simp [State.sendNotice]

/-- What a slot leaves alone. -/
@[simp] theorem State.openSlot_frame (s : State) (p : Port) :
    (s.openSlot p).pending = s.pending ∧ (s.openSlot p).resetHeld = s.resetHeld ∧ (s.openSlot p).map = s.map ∧
    (s.openSlot p).time = s.time ∧ (s.openSlot p).probe = s.probe := by
  unfold State.openSlot
  split <;> simp

/-- What an egress slot leaves alone. -/
@[simp] theorem State.egress_frame (s : State) (p : Port) :
    (s.egress p).pending = s.pending ∧ (s.egress p).resetHeld = s.resetHeld ∧ (s.egress p).map = s.map ∧
    (s.egress p).time = s.time ∧ (s.egress p).probe = s.probe := by
  unfold State.egress
  split_ifs <;> simp

/-- A run of placements on ready lists changes records and ready lists. -/
theorem State.foldl_makeReady_frame (l : List FlowNo) : ∀ s : State,
    (l.foldl State.makeReady s).pending = s.pending ∧ (l.foldl State.makeReady s).resetHeld = s.resetHeld ∧
    (l.foldl State.makeReady s).portT = s.portT ∧ (l.foldl State.makeReady s).portF = s.portF ∧
    (l.foldl State.makeReady s).map = s.map ∧ (l.foldl State.makeReady s).buffer = s.buffer ∧
    (l.foldl State.makeReady s).calendar = s.calendar ∧ (l.foldl State.makeReady s).time = s.time ∧
    (l.foldl State.makeReady s).mgmt = s.mgmt ∧ (l.foldl State.makeReady s).notices = s.notices ∧
    (l.foldl State.makeReady s).counters = s.counters ∧ (l.foldl State.makeReady s).probe = s.probe := by
  induction l with
  | nil => simp
  | cons f l ih => intro s; simpa using ih (s.makeReady f)

/-- A calendar service changes records, ready lists and a calendar slot. -/
@[simp] theorem State.serviceCalendar_frame (s : State) :
    (s.serviceCalendar).pending = s.pending ∧ (s.serviceCalendar).resetHeld = s.resetHeld ∧
    (s.serviceCalendar).portT = s.portT ∧ (s.serviceCalendar).portF = s.portF ∧ (s.serviceCalendar).map = s.map ∧
    (s.serviceCalendar).buffer = s.buffer ∧ (s.serviceCalendar).time = s.time ∧ (s.serviceCalendar).mgmt = s.mgmt ∧
    (s.serviceCalendar).notices = s.notices ∧ (s.serviceCalendar).counters = s.counters ∧
    (s.serviceCalendar).probe = s.probe := by
  simp [State.serviceCalendar, State.foldl_makeReady_frame]

/-- A sweep visit changes a record. -/
@[simp] theorem State.sweepVisit_frame (s : State) (f : FlowNo) :
    (s.sweepVisit f).pending = s.pending ∧ (s.sweepVisit f).resetHeld = s.resetHeld ∧ (s.sweepVisit f).portT = s.portT ∧
    (s.sweepVisit f).portF = s.portF ∧ (s.sweepVisit f).map = s.map ∧ (s.sweepVisit f).buffer = s.buffer ∧
    (s.sweepVisit f).calendar = s.calendar ∧ (s.sweepVisit f).ready = s.ready ∧ (s.sweepVisit f).time = s.time ∧
    (s.sweepVisit f).mgmt = s.mgmt ∧ (s.sweepVisit f).notices = s.notices ∧ (s.sweepVisit f).counters = s.counters ∧
    (s.sweepVisit f).probe = s.probe := by
  unfold State.sweepVisit
  dsimp only
  split_ifs <;> simp

/-- What a tick leaves alone. -/
@[simp] theorem State.tick_frame (s : State) :
    (s.tick).pending = s.pending ∧ (s.tick).resetHeld = s.resetHeld ∧ (s.tick).portT = s.portT ∧
    (s.tick).portF = s.portF ∧ (s.tick).map = s.map ∧ (s.tick).buffer = s.buffer ∧ (s.tick).mgmt = s.mgmt ∧
    (s.tick).notices = s.notices ∧ (s.tick).counters = s.counters ∧ (s.tick).probe = s.probe := by
  unfold State.tick
  split_ifs <;> simp

/-- A link transition changes its port and posts. -/
@[simp] theorem State.linkUp_frame (s : State) (p : Port) :
    (s.linkUp p).pending = s.pending ∧ (s.linkUp p).resetHeld = s.resetHeld ∧ (s.linkUp p).map = s.map ∧
    (s.linkUp p).flows = s.flows ∧ (s.linkUp p).buffer = s.buffer ∧ (s.linkUp p).calendar = s.calendar ∧
    (s.linkUp p).ready = s.ready ∧ (s.linkUp p).time = s.time ∧ (s.linkUp p).mgmt = s.mgmt ∧
    (s.linkUp p).counters = s.counters ∧ (s.linkUp p).probe = s.probe := by
  simp [State.linkUp]

/-- A link transition changes its port and posts. -/
@[simp] theorem State.linkDown_frame (s : State) (p : Port) :
    (s.linkDown p).pending = s.pending ∧ (s.linkDown p).resetHeld = s.resetHeld ∧ (s.linkDown p).map = s.map ∧
    (s.linkDown p).flows = s.flows ∧ (s.linkDown p).buffer = s.buffer ∧ (s.linkDown p).calendar = s.calendar ∧
    (s.linkDown p).ready = s.ready ∧ (s.linkDown p).time = s.time ∧ (s.linkDown p).mgmt = s.mgmt ∧
    (s.linkDown p).counters = s.counters ∧ (s.linkDown p).probe = s.probe := by
  simp [State.linkDown]

/-- What a line-OK assertion leaves alone. -/
@[simp] theorem State.assertLineOk_frame (s : State) (p : Port) :
    (s.assertLineOk p).pending = s.pending ∧ (s.assertLineOk p).resetHeld = s.resetHeld ∧
    (s.assertLineOk p).map = s.map ∧ (s.assertLineOk p).flows = s.flows ∧ (s.assertLineOk p).buffer = s.buffer ∧
    (s.assertLineOk p).calendar = s.calendar ∧ (s.assertLineOk p).ready = s.ready ∧ (s.assertLineOk p).time = s.time ∧
    (s.assertLineOk p).mgmt = s.mgmt ∧ (s.assertLineOk p).counters = s.counters ∧ (s.assertLineOk p).probe = s.probe := by
  unfold State.assertLineOk State.setLineOk
  split_ifs <;> simp

/-- What a line-OK deassertion leaves alone. -/
@[simp] theorem State.deassertLineOk_frame (s : State) (p : Port) :
    (s.deassertLineOk p).pending = s.pending ∧ (s.deassertLineOk p).resetHeld = s.resetHeld ∧
    (s.deassertLineOk p).map = s.map ∧ (s.deassertLineOk p).flows = s.flows ∧ (s.deassertLineOk p).buffer = s.buffer ∧
    (s.deassertLineOk p).calendar = s.calendar ∧ (s.deassertLineOk p).ready = s.ready ∧
    (s.deassertLineOk p).time = s.time ∧ (s.deassertLineOk p).mgmt = s.mgmt ∧
    (s.deassertLineOk p).counters = s.counters ∧ (s.deassertLineOk p).probe = s.probe := by
  unfold State.deassertLineOk State.setLineOk
  split_ifs <;> simp

/-- An abort changes the probe and posts. -/
@[simp] theorem State.abortProbe_frame (s : State) (f : FlowNo) :
    (s.abortProbe f).pending = s.pending ∧ (s.abortProbe f).resetHeld = s.resetHeld ∧ (s.abortProbe f).portT = s.portT ∧
    (s.abortProbe f).portF = s.portF ∧ (s.abortProbe f).map = s.map ∧ (s.abortProbe f).flows = s.flows ∧
    (s.abortProbe f).buffer = s.buffer ∧ (s.abortProbe f).calendar = s.calendar ∧ (s.abortProbe f).ready = s.ready ∧
    (s.abortProbe f).time = s.time ∧ (s.abortProbe f).mgmt = s.mgmt ∧ (s.abortProbe f).counters = s.counters := by
  unfold State.abortProbe
  split_ifs <;> simp

/-- A cancel changes the probe and posts. -/
@[simp] theorem State.cancelProbe_frame (s : State) :
    (s.cancelProbe).pending = s.pending ∧ (s.cancelProbe).resetHeld = s.resetHeld ∧ (s.cancelProbe).portT = s.portT ∧
    (s.cancelProbe).portF = s.portF ∧ (s.cancelProbe).map = s.map ∧ (s.cancelProbe).flows = s.flows ∧
    (s.cancelProbe).buffer = s.buffer ∧ (s.cancelProbe).calendar = s.calendar ∧ (s.cancelProbe).ready = s.ready ∧
    (s.cancelProbe).time = s.time ∧ (s.cancelProbe).mgmt = s.mgmt ∧ (s.cancelProbe).counters = s.counters := by
  unfold State.cancelProbe
  split_ifs <;> simp

/-- What a suspension leaves alone. -/
@[simp] theorem State.suspend_frame (s : State) (f : FlowNo) :
    (s.suspend f).pending = s.pending ∧ (s.suspend f).resetHeld = s.resetHeld ∧ (s.suspend f).portT = s.portT ∧
    (s.suspend f).portF = s.portF ∧ (s.suspend f).map = s.map ∧ (s.suspend f).buffer = s.buffer ∧
    (s.suspend f).time = s.time ∧ (s.suspend f).mgmt = s.mgmt ∧ (s.suspend f).notices = s.notices ∧
    (s.suspend f).counters = s.counters ∧ (s.suspend f).probe = s.probe := by
  simp [State.suspend]

/-- What a resume leaves alone. -/
@[simp] theorem State.resumeKeep_frame (s : State) (f : FlowNo) :
    (s.resumeKeep f).pending = s.pending ∧ (s.resumeKeep f).resetHeld = s.resetHeld ∧ (s.resumeKeep f).portT = s.portT ∧
    (s.resumeKeep f).portF = s.portF ∧ (s.resumeKeep f).map = s.map ∧ (s.resumeKeep f).buffer = s.buffer ∧
    (s.resumeKeep f).time = s.time ∧ (s.resumeKeep f).mgmt = s.mgmt ∧ (s.resumeKeep f).notices = s.notices ∧
    (s.resumeKeep f).counters = s.counters ∧ (s.resumeKeep f).probe = s.probe := by
  simp [State.resumeKeep]

/-- What a restart leaves alone. -/
@[simp] theorem State.resumeRestart_frame (s : State) (f : FlowNo) :
    (s.resumeRestart f).pending = s.pending ∧ (s.resumeRestart f).resetHeld = s.resetHeld ∧
    (s.resumeRestart f).portT = s.portT ∧ (s.resumeRestart f).portF = s.portF ∧ (s.resumeRestart f).map = s.map ∧
    (s.resumeRestart f).buffer = s.buffer ∧ (s.resumeRestart f).time = s.time ∧ (s.resumeRestart f).mgmt = s.mgmt ∧
    (s.resumeRestart f).notices = s.notices ∧ (s.resumeRestart f).counters = s.counters ∧
    (s.resumeRestart f).probe = s.probe := by
  simp [State.resumeRestart]

/-- What the start of a drain leaves alone. -/
@[simp] theorem State.startDrain_frame (s : State) (f : FlowNo) :
    (s.startDrain f).pending = s.pending ∧ (s.startDrain f).resetHeld = s.resetHeld ∧ (s.startDrain f).portT = s.portT ∧
    (s.startDrain f).portF = s.portF ∧ (s.startDrain f).map = s.map ∧ (s.startDrain f).buffer = s.buffer ∧
    (s.startDrain f).calendar = s.calendar ∧ (s.startDrain f).ready = s.ready ∧ (s.startDrain f).time = s.time ∧
    (s.startDrain f).mgmt = s.mgmt ∧ (s.startDrain f).counters = s.counters := by
  simp [State.startDrain]

/-- What the close of an empty flow leaves alone. -/
@[simp] theorem State.closeEmpty_frame (s : State) (f : FlowNo) :
    (s.closeEmpty f).pending = s.pending ∧ (s.closeEmpty f).resetHeld = s.resetHeld ∧ (s.closeEmpty f).portT = s.portT ∧
    (s.closeEmpty f).portF = s.portF ∧ (s.closeEmpty f).map = s.map ∧ (s.closeEmpty f).buffer = s.buffer ∧
    (s.closeEmpty f).calendar = s.calendar ∧ (s.closeEmpty f).ready = s.ready ∧ (s.closeEmpty f).time = s.time ∧
    (s.closeEmpty f).mgmt = s.mgmt ∧ (s.closeEmpty f).counters = s.counters := by
  simp [State.closeEmpty]

/-- A return of slots changes the buffer and may post. -/
@[simp] theorem State.returnSlots_frame (s : State) (l : List SlotNo) :
    (s.returnSlots l).pending = s.pending ∧ (s.returnSlots l).resetHeld = s.resetHeld ∧
    (s.returnSlots l).portT = s.portT ∧ (s.returnSlots l).portF = s.portF ∧ (s.returnSlots l).map = s.map ∧
    (s.returnSlots l).flows = s.flows ∧ (s.returnSlots l).calendar = s.calendar ∧ (s.returnSlots l).ready = s.ready ∧
    (s.returnSlots l).time = s.time ∧ (s.returnSlots l).mgmt = s.mgmt ∧ (s.returnSlots l).counters = s.counters ∧
    (s.returnSlots l).probe = s.probe := by
  unfold State.returnSlots
  split_ifs <;> simp

/-- What a flush leaves alone. -/
@[simp] theorem State.flush_frame (s : State) (f : FlowNo) :
    (s.flush f).pending = s.pending ∧ (s.flush f).resetHeld = s.resetHeld ∧ (s.flush f).portT = s.portT ∧
    (s.flush f).portF = s.portF ∧ (s.flush f).map = s.map ∧ (s.flush f).time = s.time ∧ (s.flush f).mgmt = s.mgmt := by
  unfold State.flush
  dsimp only
  split_ifs <;> simp

end Sys2Proof.Machine
end

