-- ==== Sys2Proof/Laws/Levels.lean ====
section
/-! SUPPORT. What the test of one watermark level does to the buffer and to the notice unit, and postings made one after another. -/

namespace Sys2Proof.Machine

/-! ## Postings, one after another -/

@[simp] theorem NoticeUnit.postAll_nil (u : NoticeUnit) (now : Stamp) : u.postAll now [] = u := rfl

@[simp] theorem NoticeUnit.postAll_cons (u : NoticeUnit) (now : Stamp) (x : Notice × Detail) (l : List (Notice × Detail)) :
    u.postAll now (x :: l) = (u.post x.1 now x.2).postAll now l := rfl

theorem NoticeUnit.postAll_append (u : NoticeUnit) (now : Stamp) (l m : List (Notice × Detail)) :
    u.postAll now (l ++ m) = (u.postAll now l).postAll now m := by
  simp [NoticeUnit.postAll, List.foldl_append]

/-- A posting never changes the credit, the sequence number or the enable set (R170 to R173). -/
theorem NoticeUnit.post_frame (u : NoticeUnit) (n : Notice) (now : Stamp) (d : Detail) :
    (u.post n now d).credit = u.credit ∧ (u.post n now d).seq = u.seq ∧ (u.post n now d).enabled = u.enabled := by
  unfold NoticeUnit.post NoticeUnit.lose NoticeUnit.merge NoticeUnit.append
  split_ifs <;> simp

/-! ## Raising and clearing -/

@[simp] theorem CellBuffer.setRaised_freeList (b : CellBuffer) (l : Level) (r : Bool) :
    (b.setRaised l r).freeList = b.freeList := by cases l <;> rfl

@[simp] theorem CellBuffer.setRaised_slots (b : CellBuffer) (l : Level) (r : Bool) :
    (b.setRaised l r).slots = b.slots := by cases l <;> rfl

@[simp] theorem CellBuffer.setRaised_peak (b : CellBuffer) (l : Level) (r : Bool) :
    (b.setRaised l r).peak = b.peak := by cases l <;> rfl

@[simp] theorem CellBuffer.setRaised_hysteresis (b : CellBuffer) (l : Level) (r : Bool) :
    (b.setRaised l r).hysteresis = b.hysteresis := by cases l <;> rfl

@[simp] theorem CellBuffer.setRaised_occupancy (b : CellBuffer) (l : Level) (r : Bool) :
    (b.setRaised l r).occupancy = b.occupancy := by cases l <;> rfl

/-- A level after one level has been raised or cleared. -/
theorem CellBuffer.level_setRaised (b : CellBuffer) (l k : Level) (r : Bool) :
    (b.setRaised l r).level k = if k = l then { b.level k with raised := r } else b.level k := by
  cases l <;> cases k <;> rfl

/-- Giving a level the value it has changes nothing. -/
theorem CellBuffer.setRaised_same (b : CellBuffer) (l : Level) : b.setRaised l (b.level l).raised = b := by
  cases l <;> rfl

/-- The test of one level after an enqueue (R82). -/
theorem State.raiseLevel_does (s : State) (l : Level) :
    s.raiseLevel l = { s with
      buffer := s.buffer.setRaised l ((s.buffer.level l).raised || s.buffer.rises l)
      notices := s.notices.postAll s.time.now (if s.buffer.rises l then [(.watermarkUp l, .none)] else []) } := by
  unfold State.raiseLevel CellBuffer.rises
  cases hr : (s.buffer.level l).raised <;> by_cases ho : s.buffer.occupancy = (s.buffer.level l).threshold
  · simp [ho]; rfl
  · have := s.buffer.setRaised_same l
    rw [hr] at this
    simp [ho, this]
  · have := s.buffer.setRaised_same l
    rw [hr] at this
    simp [this]
  · have := s.buffer.setRaised_same l
    rw [hr] at this
    simp [this]

/-- The test of one level after a return of slots (R83). -/
theorem State.clearLevel_does (s : State) (l : Level) :
    s.clearLevel l = { s with
      buffer := s.buffer.setRaised l ((s.buffer.level l).raised && !s.buffer.falls l)
      notices := s.notices.postAll s.time.now (if s.buffer.falls l then [(.watermarkDown l, .none)] else []) } := by
  unfold State.clearLevel CellBuffer.falls
  have := s.buffer.setRaised_same l
  cases hr : (s.buffer.level l).raised <;>
    by_cases ho : s.buffer.occupancy + s.buffer.hysteresis < (s.buffer.level l).threshold <;> rw [hr] at this
  · simp [this]
  · simp [this]
  · simp [ho]; rfl
  · simp [ho, this]

/-- The re-evaluation of one level where it rises (R84). -/
theorem State.reviseUp_does (s : State) (l : Level) :
    s.reviseUp l = { s with
      buffer := s.buffer.setRaised l ((s.buffer.level l).raised || s.buffer.shouldRaise l)
      notices := s.notices.postAll s.time.now
        (if !(s.buffer.level l).raised && s.buffer.shouldRaise l then [(.watermarkUp l, .none)] else []) } := by
  unfold State.reviseUp
  have := s.buffer.setRaised_same l
  cases hr : (s.buffer.level l).raised <;> cases ho : s.buffer.shouldRaise l <;> rw [hr] at this
  · simp [this]
  · simp; rfl
  · simp [this]
  · simp [this]

/-- The re-evaluation of one level where it clears (R84). -/
theorem State.reviseDown_does (s : State) (l : Level) :
    s.reviseDown l = { s with
      buffer := s.buffer.setRaised l ((s.buffer.level l).raised && s.buffer.shouldRaise l)
      notices := s.notices.postAll s.time.now
        (if (s.buffer.level l).raised && !s.buffer.shouldRaise l then [(.watermarkDown l, .none)] else []) } := by
  unfold State.reviseDown
  have := s.buffer.setRaised_same l
  cases hr : (s.buffer.level l).raised <;> cases ho : s.buffer.shouldRaise l <;> rw [hr] at this
  · simp [this]
  · simp [this]
  · simp; rfl
  · simp [this]

end Sys2Proof.Machine
end

