-- ==== Sys2Proof/Laws/Placement.lean ====
section
/-! SUPPORT. Where the placement operations put a flow: what they leave in the Flow Table, the ready lists and the calendar. -/

namespace Sys2Proof.Machine

/-! ## Reading one entry after an update -/

/-- A flow's record after an update of one record. -/
theorem State.flow_setFlow (s : State) (f g : FlowNo) (r : FlowRecord) :
    (s.setFlow f r).flow g = if g = f then r else s.flow g := by
  rcases eq_or_ne g f with h | h
  · subst h
    simp [State.flow, Vector.get_eq_getElem]
  · have : f.val ≠ g.val := fun e => h (Fin.ext e.symm)
    simp [State.flow, Vector.get_eq_getElem, h, this]

/-- A flow table that is equal gives equal records. -/
theorem State.flow_congr {s t : State} (h : s.flows = t.flows) (f : FlowNo) : s.flow f = t.flow f := by
  simp [State.flow, h]

/-- Writing a record twice is writing it once. -/
@[simp] theorem State.flows_set_set (v : Vector FlowRecord 256) (f : FlowNo) (a b : FlowRecord) :
    (v.set f.val a f.isLt).set f.val b f.isLt = v.set f.val b f.isLt := by
  simp

/-- Writing the record that stands there changes nothing. -/
theorem State.flows_set_flow (s : State) (f : FlowNo) : s.flows.set f.val (s.flow f) f.isLt = s.flows := by
  simp [State.flow, Vector.get_eq_getElem]

/-- A ready list after an update of one ready list. -/
theorem State.readyList_setReadyList (s : State) (p p' : Port) (q q' : Priority) (l : List FlowNo) :
    (s.setReadyList p q l).readyList p' q' = if p' = p ∧ q' = q then l else s.readyList p' q' := by
  rcases eq_or_ne q' q with h | h
  · subst h
    cases p <;> cases p' <;> simp [State.readyList, State.setReadyList, ReadyLists.lists, Vector.get_eq_getElem]
  · have : q.val ≠ q'.val := fun e => h (Fin.ext e.symm)
    cases p <;> cases p' <;> simp [State.readyList, State.setReadyList, ReadyLists.lists, Vector.get_eq_getElem, h, this]

/-- A calendar slot after an update of one slot. -/
theorem State.calendarSlot_setCalendarSlot (s : State) (i j : Fin 1024) (l : List FlowNo) :
    (s.setCalendarSlot i l).calendarSlot j = if j = i then l else s.calendarSlot j := by
  rcases eq_or_ne j i with h | h
  · subst h
    simp [State.calendarSlot, Vector.get_eq_getElem]
  · have : i.val ≠ j.val := fun e => h (Fin.ext e.symm)
    simp [State.calendarSlot, Vector.get_eq_getElem, h, this]

/-- Equal ready lists and an equal flow record give equal ready lists without the flow. -/
theorem State.readyWithout_congr {s t : State} (f : FlowNo) (hr : s.ready = t.ready) (hf : s.flow f = t.flow f) (p : Port)
    (q : Priority) : s.readyWithout f p q = t.readyWithout f p q := by
  simp [State.readyWithout, State.readyList, hr, hf]

/-! ## Removal -/

/-- The ready lists after a removal. -/
theorem State.unschedule_readyList (s : State) (f : FlowNo) (p : Port) (q : Priority) :
    (s.unschedule f).readyList p q = s.readyWithout f p q := by
  unfold State.unschedule State.readyWithout
  dsimp only
  cases h : (s.flow f).sched with
  | empty => simp
  | held => simp
  | waiting => simp [State.readyList]
  | ready =>
    simp only [State.readyList_setReadyList, true_and, eq_comm (a := p), eq_comm (a := q)]
    split_ifs with hc
    · rw [← hc.1, ← hc.2]
    · rfl

/-- The calendar after a removal. -/
theorem State.unschedule_calendarSlot (s : State) (f : FlowNo) (i : Fin 1024) :
    (s.unschedule f).calendarSlot i = s.slotWithout f i := by
  unfold State.unschedule State.slotWithout
  dsimp only
  cases h : (s.flow f).sched with
  | empty => simp
  | held => simp
  | ready => simp [State.calendarSlot]
  | waiting =>
    simp only [State.calendarSlot_setCalendarSlot, true_and, eq_comm (a := i)]
    split_ifs with hc
    · rw [← hc]
    · rfl

/-! ## Placement -/

/-- A flow that has to wait, by its due time and tolerance (R11). -/
theorem FlowRecord.mustWait_iff (r : FlowRecord) (now : Stamp) :
    r.mustWait now = true ↔ r.active.mode = .pace ∧ after (r.due - r.active.tolerance.setWidth 24) now = true := by
  simp [FlowRecord.mustWait, FlowRecord.eligibleTime]

/-- Everything a placement does: the flow's record is filed, and the flow joins the tail of the ready list or calendar slot that
the record then names, or neither. -/
theorem State.place_does (s : State) (f : FlowNo) :
    (s.place f).flows = s.flows.set f.val ((s.flow f).filed s.now) f.isLt ∧
    (∀ p q, (s.place f).readyList p q = s.readyList p q ++
      if ((s.flow f).filed s.now).sched = .ready ∧ (s.flow f).egressPort = p ∧ (s.flow f).priority = q then [f] else []) ∧
    (∀ i, (s.place f).calendarSlot i = s.calendarSlot i ++
      if ((s.flow f).filed s.now).sched = .waiting ∧ slotIndex ((s.flow f).filed s.now).eligible = i then [f] else []) := by
  have hw := (s.flow f).mustWait_iff s.now
  unfold State.place FlowRecord.filed FlowRecord.becomes
  dsimp only
  by_cases h1 : (s.flow f).queue = []
  · simp [h1, State.setSched, State.readyList, State.calendarSlot]
  by_cases h2 : (s.flow f).lifecycle = .suspended
  · simp [h1, h2, State.setSched, State.readyList, State.calendarSlot]
  by_cases h3 : (s.flow f).mustWait s.now = true
  · have h3' := hw.mp h3
    simp only [h1, h2, h3, if_true, if_false, if_pos h3', State.makeWaiting]
    refine ⟨by simp [FlowRecord.eligibleTime], fun p q => by simp [State.readyList], fun i => ?_⟩
    change (State.setCalendarSlot _ _ _).calendarSlot i = _
    rw [State.calendarSlot_setCalendarSlot]
    by_cases hi : i = slotIndex ((s.flow f).due - (s.flow f).active.tolerance.setWidth 24)
    · subst hi
      simp [FlowRecord.eligibleTime]
    · simp [FlowRecord.eligibleTime, hi, Ne.symm hi]
  · have h3' := fun h => h3 (hw.mpr h)
    simp only [h1, h2, h3, if_false, if_neg h3', State.makeReady, Bool.false_eq_true]
    refine ⟨by simp, fun p q => ?_, fun i => by simp [State.calendarSlot]⟩
    change (State.setReadyList _ _ _ _).readyList p q = _
    rw [State.readyList_setReadyList]
    by_cases hi : p = (s.flow f).egressPort ∧ q = (s.flow f).priority
    · obtain ⟨rfl, rfl⟩ := hi
      simp
    · have hi' : ¬ ((s.flow f).egressPort = p ∧ (s.flow f).priority = q) := fun e => hi ⟨e.1.symm, e.2.symm⟩
      simp [hi, hi']

/-- A flow that no structure holds, placed: it has been refiled. -/
theorem State.place_refiles (s : State) (f : FlowNo) (hr : (s.flow f).sched ≠ .ready) (hw : (s.flow f).sched ≠ .waiting) :
    Refiled s (s.place f) f := by
  obtain ⟨h1, h2, h3⟩ := s.place_does f
  have hf : (s.place f).flow f = (s.flow f).filed s.now := by
    simp [State.flow, h1, Vector.get_eq_getElem]
  have he : ((s.flow f).filed s.now).egressPort = (s.flow f).egressPort := rfl
  have hp : ((s.flow f).filed s.now).priority = (s.flow f).priority := rfl
  refine ⟨fun p q => ?_, fun i => ?_⟩
  · rw [h2, hf, he, hp]
    simp [State.readyWithout, hr]
  · rw [h3, hf]
    simp [State.slotWithout, hw]

/-! ## Rescheduling after a promotion -/

/-- Everything the rescheduling of R17 does: the flow's record is filed; where neither its scheduling state nor its X changes it
keeps its place, and otherwise it is refiled. -/
theorem State.reschedule_does (s : State) (f : FlowNo) (h : (s.flow f).StandsRight) :
    (s.reschedule f).flows = s.flows.set f.val ((s.flow f).filed s.now) f.isLt ∧
    ((((s.flow f).filed s.now).sched = (s.flow f).sched ∧
        (((s.flow f).filed s.now).sched = .waiting → ((s.flow f).filed s.now).eligible = (s.flow f).eligible)) →
      Unmoved s (s.reschedule f)) ∧
    (¬ (((s.flow f).filed s.now).sched = (s.flow f).sched ∧
        (((s.flow f).filed s.now).sched = .waiting → ((s.flow f).filed s.now).eligible = (s.flow f).eligible)) →
      Refiled s (s.reschedule f) f) := by
  obtain ⟨he, hh⟩ := h
  have hw := (s.flow f).mustWait_iff s.now
  by_cases h1 : (s.flow f).queue = []
  · have hs := he.mpr h1
    have e : s.reschedule f = s.setSched f .empty := by simp [State.reschedule, h1]
    have ef : (s.flow f).filed s.now = { s.flow f with sched := .empty } := by
      simp [FlowRecord.filed, FlowRecord.becomes, h1]
    rw [e, ef]
    exact ⟨rfl, fun _ => ⟨rfl, rfl⟩, fun hk => absurd ⟨hs.symm, fun h => nomatch h⟩ hk⟩
  by_cases h2 : (s.flow f).lifecycle = .suspended
  · have hs := hh.mpr ⟨h2, h1⟩
    have e : s.reschedule f = s.setSched f .held := by simp [State.reschedule, h1, h2]
    have ef : (s.flow f).filed s.now = { s.flow f with sched := .held } := by
      simp [FlowRecord.filed, FlowRecord.becomes, h1, h2]
    rw [e, ef]
    exact ⟨rfl, fun _ => ⟨rfl, rfl⟩, fun hk => absurd ⟨hs.symm, fun h => nomatch h⟩ hk⟩
  have hs1 : (s.flow f).sched ≠ .empty := fun h => h1 (he.mp h)
  have hs2 : (s.flow f).sched ≠ .held := fun h => h2 (hh.mp h).1
  have hu : (s.unschedule f).flow f = s.flow f := by simp [State.flow]
  by_cases h3 : (s.flow f).mustWait s.now = true
  · have ef : (s.flow f).filed s.now = { s.flow f with sched := .waiting, eligible := (s.flow f).eligibleTime } := by
      simp [FlowRecord.filed, FlowRecord.becomes, h1, h2, hw.mp h3, FlowRecord.eligibleTime]
    rw [ef]
    by_cases h4 : (s.flow f).sched = .waiting ∧ (s.flow f).eligible = (s.flow f).eligibleTime
    · have e : s.reschedule f = s := by simp [State.reschedule, h1, h2, h3, h4]
      have er : ({ s.flow f with sched := .waiting, eligible := (s.flow f).eligibleTime } : FlowRecord) = s.flow f := by
        rw [← h4.1, ← h4.2]
      rw [e, er, State.flows_set_flow]
      exact ⟨rfl, fun _ => ⟨rfl, rfl⟩, fun hk => absurd ⟨rfl, fun _ => rfl⟩ hk⟩
    · have e : s.reschedule f = (s.unschedule f).makeWaiting f := by
        unfold State.reschedule
        simp only [h1, h2, h3, h4, if_true, if_false]
      have hf : ((s.unschedule f).makeWaiting f).flow f =
          { s.flow f with sched := .waiting, eligible := (s.flow f).eligibleTime } := by
        simp [State.makeWaiting, hu]
      rw [e]
      refine ⟨by simp [State.makeWaiting, hu], fun hk => absurd ⟨hk.1.symm, (hk.2 rfl).symm⟩ h4, fun _ => ?_⟩
      refine ⟨fun p q => ?_, fun i => ?_⟩
      · rw [hf]
        simp only [reduceCtorEq, false_and, if_false, List.append_nil]
        rw [← s.unschedule_readyList f p q]
        simp [State.readyList]
      · rw [hf]
        simp only [true_and]
        rw [← s.unschedule_calendarSlot f i]
        unfold State.makeWaiting
        dsimp only
        rw [hu]
        change (State.setCalendarSlot _ _ _).calendarSlot i = _
        rw [State.calendarSlot_setCalendarSlot]
        by_cases hi : i = slotIndex (s.flow f).eligibleTime
        · subst hi
          simp
        · simp [hi, Ne.symm hi]
  · have ef : (s.flow f).filed s.now = { s.flow f with sched := .ready } := by
      have h3' := fun h => h3 (hw.mpr h)
      simp [FlowRecord.filed, FlowRecord.becomes, h1, h2, if_neg h3']
    rw [ef]
    by_cases h4 : (s.flow f).sched = .ready
    · have e : s.reschedule f = s := by simp [State.reschedule, h1, h2, h3, h4]
      have er : ({ s.flow f with sched := .ready } : FlowRecord) = s.flow f := by rw [← h4]
      rw [e, er, State.flows_set_flow]
      exact ⟨rfl, fun _ => ⟨rfl, rfl⟩, fun hk => absurd ⟨rfl, fun _ => rfl⟩ hk⟩
    · have e : s.reschedule f = (s.unschedule f).makeReady f := by
        unfold State.reschedule
        simp only [h1, h2, h3, h4, if_false]
        simp
      have hf : ((s.unschedule f).makeReady f).flow f = { s.flow f with sched := .ready } := by
        simp [State.makeReady, hu]
      rw [e]
      refine ⟨by simp [State.makeReady, hu], fun hk => absurd hk.1.symm h4, fun _ => ?_⟩
      refine ⟨fun p q => ?_, fun i => ?_⟩
      · rw [hf]
        simp only [true_and]
        rw [← s.unschedule_readyList f p q]
        unfold State.makeReady
        dsimp only
        rw [hu]
        change (State.setReadyList _ _ _ _).readyList p q = _
        rw [State.readyList_setReadyList]
        by_cases hi : p = (s.flow f).egressPort ∧ q = (s.flow f).priority
        · obtain ⟨rfl, rfl⟩ := hi
          simp
        · have hi' : ¬ ((s.flow f).egressPort = p ∧ (s.flow f).priority = q) := fun e => hi ⟨e.1.symm, e.2.symm⟩
          simp [hi, hi']
      · rw [hf]
        simp only [reduceCtorEq, false_and, if_false, List.append_nil]
        rw [← s.unschedule_calendarSlot f i]
        simp [State.calendarSlot]

end Sys2Proof.Machine
end

