-- ==== Sys2Proof/Laws/Engine.lean ====
section
/-! SUPPORT. The shared operations do not look at the Management Engine: doing them after a change there is doing them before it. A
request's effect, made on a state whose request has been dequeued, is so the effect on the state itself. -/

namespace Sys2Proof.Machine

@[simp] theorem State.dequeue_flow (s : State) (rest : List Payload) (f : FlowNo) : (s.dequeue rest).flow f = s.flow f := rfl

@[simp] theorem State.withMgmt_flow (s : State) (m : Management) (f : FlowNo) : (s.withMgmt m).flow f = s.flow f := rfl

theorem State.setReadyList_withMgmt (s : State) (m : Management) (p : Port) (q : Priority) (l : List FlowNo) :
    (s.withMgmt m).setReadyList p q l = (s.setReadyList p q l).withMgmt m := by
  cases p <;> rfl

theorem State.post_withMgmt (s : State) (m : Management) (n : Notice) (d : Detail) :
    (s.withMgmt m).post n d = (s.post n d).withMgmt m := rfl

theorem State.unschedule_withMgmt (s : State) (m : Management) (f : FlowNo) :
    (s.withMgmt m).unschedule f = (s.unschedule f).withMgmt m := by
  unfold State.unschedule
  dsimp only
  rw [State.withMgmt_flow]
  cases (s.flow f).sched with
  | ready => exact State.setReadyList_withMgmt _ _ _ _ _
  | waiting => rfl
  | empty => rfl
  | held => rfl

theorem State.makeReady_withMgmt (s : State) (m : Management) (f : FlowNo) :
    (s.withMgmt m).makeReady f = (s.makeReady f).withMgmt m := by
  unfold State.makeReady
  dsimp only
  rw [State.withMgmt_flow, State.setReadyList_withMgmt]
  rfl

theorem State.makeWaiting_withMgmt (s : State) (m : Management) (f : FlowNo) :
    (s.withMgmt m).makeWaiting f = (s.makeWaiting f).withMgmt m := rfl

theorem State.place_withMgmt (s : State) (m : Management) (f : FlowNo) :
    (s.withMgmt m).place f = (s.place f).withMgmt m := by
  unfold State.place
  dsimp only
  rw [State.withMgmt_flow, State.makeReady_withMgmt, State.makeWaiting_withMgmt]
  show ite _ _ (ite _ _ (ite ((s.flow f).mustWait s.now = true) _ _)) = _
  split_ifs <;> rfl

theorem State.reschedule_withMgmt (s : State) (m : Management) (f : FlowNo) :
    (s.withMgmt m).reschedule f = (s.reschedule f).withMgmt m := by
  unfold State.reschedule
  dsimp only
  rw [State.withMgmt_flow, State.unschedule_withMgmt, State.makeReady_withMgmt, State.makeWaiting_withMgmt]
  show ite _ _ (ite _ _ (ite ((s.flow f).mustWait s.now = true) _ _)) = _
  split_ifs <;> rfl

theorem State.promoteNow_withMgmt (s : State) (m : Management) (f : FlowNo) :
    (s.withMgmt m).promoteNow f = (s.promoteNow f).withMgmt m :=
  State.reschedule_withMgmt (s.setFlow f (s.flow f).promote) m f

theorem State.clearLevel_withMgmt (s : State) (m : Management) (l : Level) :
    (s.withMgmt m).clearLevel l = (s.clearLevel l).withMgmt m := by
  rw [State.clearLevel_does, State.clearLevel_does]
  rfl

theorem State.clearLevels_withMgmt (s : State) (m : Management) :
    (s.withMgmt m).clearLevels = s.clearLevels.withMgmt m := by
  unfold State.clearLevels
  rw [State.clearLevel_withMgmt, State.clearLevel_withMgmt, State.clearLevel_withMgmt]

theorem State.reviseLevels_withMgmt (s : State) (m : Management) :
    (s.withMgmt m).reviseLevels = s.reviseLevels.withMgmt m := by
  unfold State.reviseLevels
  simp only [State.reviseUp_does, State.reviseDown_does]
  rfl

theorem State.suspend_withMgmt (s : State) (m : Management) (f : FlowNo) :
    (s.withMgmt m).suspend f = (s.suspend f).withMgmt m := by
  unfold State.suspend
  dsimp only
  rw [State.unschedule_withMgmt]
  rfl

theorem State.resumeKeep_withMgmt (s : State) (m : Management) (f : FlowNo) :
    (s.withMgmt m).resumeKeep f = (s.resumeKeep f).withMgmt m :=
  State.place_withMgmt (s.setFlow f { s.flow f with lifecycle := .opened }) m f

theorem State.resumeRestart_withMgmt (s : State) (m : Management) (f : FlowNo) :
    (s.withMgmt m).resumeRestart f = (s.resumeRestart f).withMgmt m :=
  State.place_withMgmt (s.setFlow f { (s.flow f).promote with lifecycle := .opened, due := s.now, cyclePos := 0 }) m f

theorem State.abortProbe_withMgmt (s : State) (m : Management) (f : FlowNo) :
    (s.withMgmt m).abortProbe f = (s.abortProbe f).withMgmt m := by
  unfold State.abortProbe
  show ite (s.probe.state = .armed ∧ s.probe.flow = f) _ _ = _
  split_ifs <;> rfl

theorem State.returnSlots_withMgmt (s : State) (m : Management) (l : List SlotNo) :
    (s.withMgmt m).returnSlots l = (s.returnSlots l).withMgmt m := by
  unfold State.returnSlots
  split_ifs
  · rfl
  · exact State.clearLevels_withMgmt (s.withBuffer (s.buffer.giveBack l)) m

theorem State.flush_withMgmt (s : State) (m : Management) (f : FlowNo) :
    (s.withMgmt m).flush f = (s.flush f).withMgmt m := by
  unfold State.flush
  dsimp only
  rw [State.withMgmt_flow, State.unschedule_withMgmt, State.returnSlots_withMgmt]
  generalize ((s.unschedule f).returnSlots (s.flow f).queue) = u
  have h := State.abortProbe_withMgmt ((u.countFlow f (FlowCounters.addFlushed (s.flow f).queue.length)).setFlow f
    { s.flow f with queue := [], sched := .empty, lifecycle := .unused, pending := none }) m f
  split_ifs
  · exact congrArg (fun v => State.post v (.flowClosed f) .flushed) h
  · exact h

end Sys2Proof.Machine
end

