-- ==== Sys2Proof/Laws/Events.lean ====
section
/-! SUPPORT. When an arrival hands a cell to admission and when a slot has a departure, each said once; what such a departure
leaves of the flow before it is placed; and the events that the table names inside an arrival or a slot, by these. -/

namespace Sys2Proof.Machine

theorem userClass_eq_user (c : Cell) (de : Bool) (ch : UserChannel) (b : Bool) :
    userClass c de = .user ch b ↔ c.channel.toNat = ch.val ∧ b = de := by
  unfold userClass
  split_ifs with h
  · rw [CellClass.user.injEq, Fin.ext_iff]
    exact and_congr_right fun _ => eq_comm
  · exact iff_of_false (fun e => nomatch e) fun e => h (e.1.symm ▸ ch.isLt)

/-- A cell is classified as a user cell exactly when it is of a user kind on a channel 0..1022. -/
theorem classify_eq_user (p : Port) (c : Cell) (ch : UserChannel) (de : Bool) :
    classify p c = .user ch de ↔
      (c.kind = .user ∨ c.kind = .userDe) ∧ c.channel.toNat = ch.val ∧ de = decide (c.kind = .userDe) := by
  unfold classify
  cases hk : c.kind with
  | idle => simp
  | user => simp [userClass_eq_user]
  | userDe => simp [userClass_eq_user]
  | management =>
    dsimp only
    split_ifs <;> simp

theorem State.isArrival_iff (s : State) (p : Port) (cell : List Byte) :
    s.isArrival p cell = true ↔ cell.length = 32 ∧ (s.port p).link = .up := by
  simp [State.isArrival, wellFormedCell]

/-- What an arrival hands to admission. -/
theorem State.arrivalTo_eq_some (s : State) (p : Port) (cell : List Byte) (f : FlowNo) (c : StoredCell) :
    s.arrivalTo p cell = some (f, c) ↔ HandsOver s p cell f c := by
  unfold State.arrivalTo
  dsimp only
  constructor
  · intro h
    split_ifs at h with hg
    rw [Bool.and_eq_true, State.isArrival_iff] at hg
    cases hc : classify p (Cell.ofBytes cell) with
    | idle => rw [hc] at h; exact nomatch h
    | misdirected => rw [hc] at h; exact nomatch h
    | request => rw [hc] at h; exact nomatch h
    | user ch de =>
      rw [hc] at h
      obtain ⟨hk, hch, hde⟩ := (classify_eq_user p _ ch de).mp hc
      obtain ⟨g, hg', he⟩ := Option.map_eq_some_iff.mp h
      obtain ⟨rfl, rfl⟩ := Prod.mk.inj he
      exact ⟨hg.1.1, hg.1.2, of_decide_eq_true hg.2, hk, ⟨ch, hch, hg'⟩, by rw [Cell.stored, hde]⟩
  · rintro ⟨hw, hu, hx, hk, ⟨ch, hch, he⟩, rfl⟩
    have hg : (Cell.ofBytes cell).good = true := decide_eq_true hx
    rw [if_pos (Bool.and_eq_true_iff.mpr ⟨(s.isArrival_iff p cell).mpr ⟨hw, hu⟩, hg⟩), (classify_eq_user p _ ch _).mpr ⟨hk, hch, rfl⟩]
    show Option.map _ (s.map.activeBank.entry p ch) = _
    rw [he]
    rfl

/-- An arrival that hands a cell over counts Received and delivers the cell to its flow. -/
theorem State.arrive_eq_deliver {s : State} {p : Port} {cell : List Byte} {f : FlowNo} {c : StoredCell}
    (h : HandsOver s p cell f c) : s.arrive p cell = (s.countPort p PortCounters.addReceived).deliver f c := by
  obtain ⟨hw, hu, hx, hk, ⟨ch, hch, he⟩, rfl⟩ := h
  have hg : (Cell.ofBytes cell).good = true := decide_eq_true hx
  have hl : s.lookup p ch = some f := he
  rw [State.arrive, if_pos ((s.isArrival_iff p cell).mpr ⟨hw, hu⟩), State.receive, if_pos hg]
  dsimp only
  rw [(classify_eq_user p _ ch _).mpr ⟨hk, hch, rfl⟩]
  dsimp only
  rw [hl]
  rfl

/-- An arrival hands over at most one cell, to one flow. -/
theorem HandsOver.unique {s : State} {p : Port} {cell : List Byte} {f g : FlowNo} {c d : StoredCell}
    (h : HandsOver s p cell f c) (k : HandsOver s p cell g d) : f = g ∧ c = d :=
  Prod.mk.inj (Option.some.inj (((s.arrivalTo_eq_some p cell f c).mpr h).symm.trans ((s.arrivalTo_eq_some p cell g d).mpr k)))

/-- The flow that a slot sends a cell of. -/
theorem State.departing_eq_some (s : State) (p : Port) (f : FlowNo) :
    s.departing p = some f ↔ (s.port p).link = .up ∧ ∃ q, s.slotChoice p = .departure q f := by
  unfold State.departing
  cases hl : (s.port p).link with
  | down => simp
  | up => cases s.slotChoice p <;> simp

/-- A slot of an UP port whose choice is a departure makes that departure. -/
theorem State.egress_eq_depart {s : State} {p : Port} {q : Priority} {f : FlowNo} (hu : (s.port p).link = .up)
    (hc : s.slotChoice p = .departure q f) : s.egress p = s.depart p q f := by
  rw [State.egress, if_pos hu, State.openSlot, hc]

/-- A departure up to its contract arithmetic: the flow has lost its head cell and is otherwise as it was, and now has not moved. -/
theorem State.depart_eq {s : State} {p : Port} {q : Priority} {f : FlowNo} {slot : SlotNo} {rest : List SlotNo}
    (hq : (s.flow f).queue = slot :: rest) : ∃ v : State, s.depart p q f = (v.departureArithmetic f).afterDeparture f ∧
      v.flow f = { s.flow f with queue := rest } ∧ v.now = s.now := by
  unfold State.depart
  rw [hq]
  refine ⟨_, rfl, ?_, ?_⟩
  · have hc : ∀ v : State, (v.countPort p PortCounters.addSent).flow f = v.flow f := fun v => by cases p <;> rfl
    have hl : ∀ v : State, v.clearLevels.flows = v.flows := fun v => by simp
    rw [hc]
    change (State.takeHead _ p q f slot rest).flow f = _
    unfold State.takeHead
    rw [State.flow_congr (hl _)]
    change (State.setFlow _ f _).flow f = _
    rw [State.flow_setFlow, if_pos rfl]
    cases p <;> rfl
  · have hc : ∀ v : State, (v.countPort p PortCounters.addSent).now = v.now := fun v => by cases p <;> rfl
    have ht : ∀ v : State, (v.takeHead p q f slot rest).now = v.now := fun v => by simp [State.now]
    rw [hc]
    change (State.takeHead _ p q f slot rest).now = _
    rw [ht]
    cases p <;> rfl

/-- The record after a due-time update, with the promotion of a cycle boundary. -/
theorem State.dueUpdate_flow (s : State) (f : FlowNo) (t : Stamp) :
    (s.dueUpdate f t).flow f = (s.flow f).updated t := by
  unfold State.dueUpdate FlowRecord.updated
  dsimp only
  split_ifs
  · change (State.setFlow _ f _).flow f = _
    rw [State.flow_setFlow, if_pos rfl]
  · rw [State.flow_setFlow, if_pos rfl]

/-- What the update of a cycle boundary leaves in the record's contracts. -/
theorem FlowRecord.updated_of_pending {r : FlowRecord} {c : Contract} (hk : (r.cyclePos + 1) % r.active.cycle = 0)
    (hp : r.pending = some c) (t : Stamp) :
    r.updated t = { r.dueUpdate t with active := c, pending := none, cyclePos := 0 } := by
  have hb : r.atBoundary = true := by simp [FlowRecord.atBoundary, Contract.nextPos, hk, hp]
  have hd : (r.dueUpdate t).pending = some c := hp
  rw [FlowRecord.updated, if_pos hb, FlowRecord.promote, hd]

/-- The arrival completes the probe. -/
theorem State.arrivalCompletesProbe_iff (s : State) (p : Port) (cell : List Byte) :
    s.arrivalCompletesProbe p cell = true ↔ ∃ f c, HandsOver s p cell f c ∧ s.probe.state = .armed ∧ s.probe.flow = f ∧
      s.probe.target ≤ s.probe.entries.length + 1 := by
  simp only [← State.arrivalTo_eq_some]
  unfold State.arrivalCompletesProbe
  cases s.arrivalTo p cell with
  | none => simp
  | some x =>
    simp [Probe.watches, Probe.completes, Prod.ext_iff, and_assoc]
    exact ⟨fun ⟨a, b, c⟩ => ⟨b.symm, a, c⟩, fun ⟨a, b, c⟩ => ⟨b, a.symm, c⟩⟩

theorem FlowRecord.atBoundary_iff (r : FlowRecord) :
    r.atBoundary = true ↔ (r.cyclePos + 1) % r.active.cycle = 0 ∧ r.pending ≠ none := by
  rw [FlowRecord.atBoundary, Bool.and_eq_true, Option.isSome_iff_ne_none]
  exact and_congr_left fun _ => decide_eq_true_iff

/-- The arrival promotes at a cycle boundary. -/
theorem State.arrivalPromotes_iff (s : State) (p : Port) (cell : List Byte) :
    s.arrivalPromotes p cell = true ↔ ∃ f c, HandsOver s p cell f c ∧ s.admission f c = .queued ∧
      (s.flow f).judge s.now = .conforming ∧ (s.flow f).atBoundary = true := by
  simp only [← State.arrivalTo_eq_some]
  unfold State.arrivalPromotes
  cases s.arrivalTo p cell with
  | none => simp
  | some x => simp [Prod.ext_iff, and_assoc]

/-- The slot promotes at a cycle boundary. -/
theorem State.slotPromotes_iff (s : State) (p : Port) :
    s.slotPromotes p = true ↔ ∃ f, s.departing p = some f ∧ (s.flow f).queue ≠ [] ∧ (s.flow f).active.mode = .pace ∧
      (s.flow f).atBoundary = true := by
  unfold State.slotPromotes
  cases s.departing p with
  | none => simp
  | some f => simp [and_assoc]

/-- The slot ends a drain. -/
theorem State.slotDrains_iff (s : State) (p : Port) :
    s.slotDrains p = true ↔ ∃ f, s.departing p = some f ∧ (s.flow f).lifecycle = .draining ∧ (s.flow f).queue.length = 1 := by
  unfold State.slotDrains
  cases s.departing p with
  | none => simp
  | some f => simp

end Sys2Proof.Machine
end

