-- ==== Sys2Proof/Laws/PerInstr.lean ====
section
/-! SUPPORT. Statements made for each instruction: what well-formedness says of a command as syntax. -/

namespace Sys2Proof.Laws.WellFormedIff

/-- The number of bytes of the cell that a command delivers; 32 for a command that delivers none. -/
def cellBytes : Instr → Nat
  | .arrival _ cell => cell.length
  | .probeCompletion _ cell => cell.length
  | .cycleBoundaryPromotion (.arrival _ cell) => cell.length
  | .cycleBoundaryPromotion (.slot _) => 32
  | .tick => 32
  | .calendarService => 32
  | .egressSlot _ => 32
  | .drainCompletion _ => 32
  | .lineOkAssertion _ => 32
  | .lineOkDeassertion _ => 32
  | .resetAssertion => 32
  | .resetRelease _ => 32
  | .sync => 32
  | .readTime => 32
  | .setTimebase => 32
  | .openFlow => 32
  | .setContract => 32
  | .commitContract => 32
  | .suspendFlow => 32
  | .resumeFlow => 32
  | .closeFlow => 32
  | .readFlow => 32
  | .prepareMap => 32
  | .writeMap => 32
  | .readMap => 32
  | .swapMap => 32
  | .setWatermarks => 32
  | .readPool => 32
  | .readCounters => 32
  | .startProbe => 32
  | .readProbe => 32
  | .grantNotices => 32
  | .setNoticeEnable => 32
  | .softReset => 32
  | .unknownRequest => 32

/-- A command is well formed exactly when the cell it delivers, if it delivers one, is 32 bytes (R109, R111), and no word of the table's
bits spells it. -/
def Statement (i : Instr) : Prop :=
  (i.wellFormed = true ↔ cellBytes i = 32) ∧ ∀ nbits w, decodeTableWord nbits w ≠ some i

theorem arrival (p : Port) (cell : List Byte) : Statement (.arrival p cell) :=
  ⟨by simp [Instr.wellFormed, wellFormedCell, cellBytes], fun _ _ h => nomatch h⟩

theorem probeCompletion (p : Port) (cell : List Byte) : Statement (.probeCompletion p cell) :=
  ⟨by simp [Instr.wellFormed, wellFormedCell, cellBytes], fun _ _ h => nomatch h⟩

theorem cycleBoundaryPromotion (e : UpdateEvent) : Statement (.cycleBoundaryPromotion e) := by
  cases e with
  | arrival p cell => exact ⟨by simp [Instr.wellFormed, UpdateEvent.wellFormed, wellFormedCell, cellBytes], fun _ _ h => nomatch h⟩
  | slot p => exact ⟨by simp [Instr.wellFormed, UpdateEvent.wellFormed, cellBytes], fun _ _ h => nomatch h⟩

theorem tick : Statement .tick :=
  ⟨⟨fun _ => rfl, fun _ => rfl⟩, fun _ _ h => nomatch h⟩

theorem calendarService : Statement .calendarService :=
  ⟨⟨fun _ => rfl, fun _ => rfl⟩, fun _ _ h => nomatch h⟩

theorem egressSlot (p : Port) : Statement (.egressSlot p) :=
  ⟨⟨fun _ => rfl, fun _ => rfl⟩, fun _ _ h => nomatch h⟩

theorem drainCompletion (p : Port) : Statement (.drainCompletion p) :=
  ⟨⟨fun _ => rfl, fun _ => rfl⟩, fun _ _ h => nomatch h⟩

theorem lineOkAssertion (p : Port) : Statement (.lineOkAssertion p) :=
  ⟨⟨fun _ => rfl, fun _ => rfl⟩, fun _ _ h => nomatch h⟩

theorem lineOkDeassertion (p : Port) : Statement (.lineOkDeassertion p) :=
  ⟨⟨fun _ => rfl, fun _ => rfl⟩, fun _ _ h => nomatch h⟩

theorem resetAssertion : Statement .resetAssertion :=
  ⟨⟨fun _ => rfl, fun _ => rfl⟩, fun _ _ h => nomatch h⟩

theorem resetRelease (first : Port) : Statement (.resetRelease first) :=
  ⟨⟨fun _ => rfl, fun _ => rfl⟩, fun _ _ h => nomatch h⟩

theorem sync : Statement .sync :=
  ⟨⟨fun _ => rfl, fun _ => rfl⟩, fun _ _ h => nomatch h⟩

theorem readTime : Statement .readTime :=
  ⟨⟨fun _ => rfl, fun _ => rfl⟩, fun _ _ h => nomatch h⟩

theorem setTimebase : Statement .setTimebase :=
  ⟨⟨fun _ => rfl, fun _ => rfl⟩, fun _ _ h => nomatch h⟩

theorem openFlow : Statement .openFlow :=
  ⟨⟨fun _ => rfl, fun _ => rfl⟩, fun _ _ h => nomatch h⟩

theorem setContract : Statement .setContract :=
  ⟨⟨fun _ => rfl, fun _ => rfl⟩, fun _ _ h => nomatch h⟩

theorem commitContract : Statement .commitContract :=
  ⟨⟨fun _ => rfl, fun _ => rfl⟩, fun _ _ h => nomatch h⟩

theorem suspendFlow : Statement .suspendFlow :=
  ⟨⟨fun _ => rfl, fun _ => rfl⟩, fun _ _ h => nomatch h⟩

theorem resumeFlow : Statement .resumeFlow :=
  ⟨⟨fun _ => rfl, fun _ => rfl⟩, fun _ _ h => nomatch h⟩

theorem closeFlow : Statement .closeFlow :=
  ⟨⟨fun _ => rfl, fun _ => rfl⟩, fun _ _ h => nomatch h⟩

theorem readFlow : Statement .readFlow :=
  ⟨⟨fun _ => rfl, fun _ => rfl⟩, fun _ _ h => nomatch h⟩

theorem prepareMap : Statement .prepareMap :=
  ⟨⟨fun _ => rfl, fun _ => rfl⟩, fun _ _ h => nomatch h⟩

theorem writeMap : Statement .writeMap :=
  ⟨⟨fun _ => rfl, fun _ => rfl⟩, fun _ _ h => nomatch h⟩

theorem readMap : Statement .readMap :=
  ⟨⟨fun _ => rfl, fun _ => rfl⟩, fun _ _ h => nomatch h⟩

theorem swapMap : Statement .swapMap :=
  ⟨⟨fun _ => rfl, fun _ => rfl⟩, fun _ _ h => nomatch h⟩

theorem setWatermarks : Statement .setWatermarks :=
  ⟨⟨fun _ => rfl, fun _ => rfl⟩, fun _ _ h => nomatch h⟩

theorem readPool : Statement .readPool :=
  ⟨⟨fun _ => rfl, fun _ => rfl⟩, fun _ _ h => nomatch h⟩

theorem readCounters : Statement .readCounters :=
  ⟨⟨fun _ => rfl, fun _ => rfl⟩, fun _ _ h => nomatch h⟩

theorem startProbe : Statement .startProbe :=
  ⟨⟨fun _ => rfl, fun _ => rfl⟩, fun _ _ h => nomatch h⟩

theorem readProbe : Statement .readProbe :=
  ⟨⟨fun _ => rfl, fun _ => rfl⟩, fun _ _ h => nomatch h⟩

theorem grantNotices : Statement .grantNotices :=
  ⟨⟨fun _ => rfl, fun _ => rfl⟩, fun _ _ h => nomatch h⟩

theorem setNoticeEnable : Statement .setNoticeEnable :=
  ⟨⟨fun _ => rfl, fun _ => rfl⟩, fun _ _ h => nomatch h⟩

theorem softReset : Statement .softReset :=
  ⟨⟨fun _ => rfl, fun _ => rfl⟩, fun _ _ h => nomatch h⟩

theorem unknownRequest : Statement .unknownRequest :=
  ⟨⟨fun _ => rfl, fun _ => rfl⟩, fun _ _ h => nomatch h⟩

end Sys2Proof.Laws.WellFormedIff
end

