-- ==== Sys2Proof/Laws/Taking.lean ====
section
/-! SUPPORT. Everything a taking can do (R128 to R135): executed, replayed, refused as out of sequence, or not taken at all. -/

namespace Sys2Proof.Machine

/-- The state after request `r` has been executed, from the state `s` it was taken in and what its entry replied. -/
theorem State.conclude_eq (s u : State) (r : Payload) (rest : List Payload) (st : Status) (data : List Byte)
    (h : u.mgmt = { s.mgmt with requests := rest }) :
    u.conclude r (responseTo r st data) = { u with mgmt := s.mgmt.answered r rest st data } := by
  unfold State.conclude State.withMgmt Management.answered
  rw [h]

/-- A request at the head whose row this is, with room, leaves the Request Queue and is sequenced. -/
theorem take_handles (s : State) (mine : Byte → Bool) (run : Payload → State → Reply) (r : Payload) (rest : List Payload)
    (hh : s.mgmt.requests = r :: rest) (hr : s.mgmt.responses.length < 4) (hm : mine (requestCode r) = true) :
    s.take mine run = (s.dequeue rest).handle r run := by
  have hc : s.canTake mine = true := by simp [State.canTake, hh, hm, Config.responseDepth, hr]
  unfold State.take
  rw [hh]
  exact if_pos hc

/-- A request at the head whose row this is, with room and the expected tag, is executed. -/
theorem take_executes (s : State) (mine : Byte → Bool) (run : Payload → State → Reply) (r : Payload) (rest : List Payload)
    (hh : s.mgmt.requests = r :: rest) (hr : s.mgmt.responses.length < 4) (hm : mine (requestCode r) = true)
    (ht : requestCode r = 0x01 ∨ requestTag r = s.mgmt.expected) :
    s.take mine run = (run r (s.dequeue rest)).state.conclude r
      (responseTo r (run r (s.dequeue rest)).status (run r (s.dequeue rest)).data) := by
  have hq : (s.dequeue rest).mgmt.sequence r = .execute := by
    unfold Management.sequence
    rcases ht with h | h
    · exact if_pos h
    · by_cases hc : requestCode r = codeSync
      · exact if_pos hc
      · exact (if_neg hc).trans (if_pos h)
  rw [take_handles s mine run r rest hh hr hm]
  unfold State.handle
  rw [hq]

/-- A request at the head whose row this is, with room and tag Q − 1 beside a valid cache, is replayed. -/
theorem take_replays (s : State) (mine : Byte → Bool) (run : Payload → State → Reply) (r : Payload) (rest : List Payload)
    (x : Response) (hh : s.mgmt.requests = r :: rest) (hr : s.mgmt.responses.length < 4) (hm : mine (requestCode r) = true)
    (hc : requestCode r ≠ 0x01) (ht : requestTag r ≠ s.mgmt.expected) (hd : requestTag r = s.mgmt.expected - 1)
    (hx : s.mgmt.cache = some x) : s.take mine run = { s with mgmt := s.mgmt.repeated rest x } := by
  have hq : (s.dequeue rest).mgmt.sequence r = .replay x := by
    have hx' : (s.dequeue rest).mgmt.cache = some x := hx
    unfold Management.sequence
    refine (if_neg hc).trans ((if_neg ht).trans ((if_pos hd).trans ?_))
    rw [hx']
  rw [take_handles s mine run r rest hh hr hm]
  unfold State.handle
  rw [hq]
  rfl

/-- A request at the head whose row this is, with room and any other tag, is refused with SEQUENCE. -/
theorem take_refuses (s : State) (mine : Byte → Bool) (run : Payload → State → Reply) (r : Payload) (rest : List Payload)
    (hh : s.mgmt.requests = r :: rest) (hr : s.mgmt.responses.length < 4) (hm : mine (requestCode r) = true)
    (hc : requestCode r ≠ 0x01) (ht : requestTag r ≠ s.mgmt.expected)
    (hn : ¬ (requestTag r = s.mgmt.expected - 1 ∧ s.mgmt.cache ≠ none)) :
    s.take mine run = { s with mgmt := s.mgmt.repeated rest (responseTo r .sequence [s.mgmt.expected]) } := by
  have hq : (s.dequeue rest).mgmt.sequence r = .outOfSequence := by
    unfold Management.sequence
    refine (if_neg hc).trans ((if_neg ht).trans ?_)
    by_cases hd : requestTag r = s.mgmt.expected - 1
    · have hx : (s.dequeue rest).mgmt.cache = none := by
        by_contra h
        exact hn ⟨hd, h⟩
      refine (if_pos hd).trans ?_
      rw [hx]
    · exact if_neg hd
  rw [take_handles s mine run r rest hh hr hm]
  unfold State.handle
  rw [hq]
  rfl

/-- Nothing is taken while 4 responses wait. -/
theorem take_stalls (s : State) (mine : Byte → Bool) (run : Payload → State → Reply) (h : 4 ≤ s.mgmt.responses.length) :
    s.take mine run = s := by
  have hn : ¬ s.mgmt.responses.length < 4 := by omega
  unfold State.take State.canTake
  split <;> simp [Config.responseDepth, hn]

/-- Nothing is taken from an empty Request Queue. -/
theorem take_empty (s : State) (mine : Byte → Bool) (run : Payload → State → Reply) (h : s.mgmt.requests = []) :
    s.take mine run = s := by
  simp [State.take, h]

/-- A row takes no request of another row. -/
theorem take_other (s : State) (mine : Byte → Bool) (run : Payload → State → Reply) (r : Payload) (rest : List Payload)
    (hh : s.mgmt.requests = r :: rest) (hm : mine (requestCode r) = false) : s.take mine run = s := by
  simp [State.take, State.canTake, hh, hm]

/-- What a taking leaves of the Management Engine and of the rest when the entry of the request keeps the Management Engine: nothing
happens, or the request is gone and exactly one response is appended, which is the entry's reply, the cached one or SEQUENCE. -/
theorem take_cases (s : State) (mine : Byte → Bool) (run : Payload → State → Reply) :
    s.take mine run = s ∨ ∃ r rest, s.mgmt.requests = r :: rest ∧ s.mgmt.responses.length < 4 ∧ mine (requestCode r) = true ∧
      ((requestCode r = 0x01 ∨ requestTag r = s.mgmt.expected) ∧
          s.take mine run = (run r (s.dequeue rest)).state.conclude r
            (responseTo r (run r (s.dequeue rest)).status (run r (s.dequeue rest)).data) ∨
        ∃ x, (s.mgmt.cache = some x ∨ x.status = .sequence) ∧ s.take mine run = { s with mgmt := s.mgmt.repeated rest x }) := by
  cases hh : s.mgmt.requests with
  | nil => exact .inl (take_empty s mine run hh)
  | cons r rest =>
    by_cases hr : s.mgmt.responses.length < 4
    · cases hm : mine (requestCode r) with
      | false => exact .inl (take_other s mine run r rest hh hm)
      | true =>
        refine .inr ⟨r, rest, rfl, hr, hm, ?_⟩
        by_cases ht : requestCode r = 0x01 ∨ requestTag r = s.mgmt.expected
        · exact .inl ⟨ht, take_executes s mine run r rest hh hr hm ht⟩
        · obtain ⟨hc, ht⟩ := not_or.mp ht
          by_cases hn : requestTag r = s.mgmt.expected - 1 ∧ s.mgmt.cache ≠ none
          · obtain ⟨x, hx⟩ := Option.ne_none_iff_exists'.mp hn.2
            exact .inr ⟨x, .inl hx, take_replays s mine run r rest x hh hr hm hc ht hn.1 hx⟩
          · exact .inr ⟨_, .inr rfl, take_refuses s mine run r rest hh hr hm hc ht hn⟩
    · exact .inl (take_stalls s mine run (by omega))

end Sys2Proof.Machine
end

