-- ==== Sys2Proof/Tests/Slice0.lean ====
section
/-! SUPPORT. The author's own tests: ill-formed commands, values of the check and of the formats written out from the spec, small
steps, and for every statement of the obligations file that has hypotheses a state and operands that meet them. -/

namespace Sys2Proof.Tests

open Sys2Proof.Machine

/-! ## Well-formedness -/

theorem test_wellFormed_refuses_short_arrival : Instr.wellFormed (.arrival .T (List.replicate 31 0)) = false := by decide

theorem test_wellFormed_refuses_long_arrival : Instr.wellFormed (.arrival .F (List.replicate 33 0)) = false := by decide

theorem test_wellFormed_refuses_short_probeCompletion : Instr.wellFormed (.probeCompletion .T (List.replicate 31 0)) = false := by
  decide

theorem test_wellFormed_refuses_short_cycleBoundaryPromotion :
    Instr.wellFormed (.cycleBoundaryPromotion (.arrival .T [])) = false := by decide

theorem test_wellFormed_takes_whole_cell : Instr.wellFormed (.arrival .T (List.replicate 32 0)) = true := by decide

theorem test_no_word_spells_a_command : decodeTableWord 32 0 = none ∧ decodeTableWord 0 7 = none := by decide

/-! ## Small states -/

/-- `s` with one request waiting. -/
def ask (s : State) (l : List Byte) : State :=
  { s with mgmt := { s.mgmt with requests := [payloadOf l] } }

/-- `s` with both ports UP. -/
def up (s : State) : State :=
  { s with portT := { lineOk := true, link := .up, tx := none }, portF := { lineOk := true, link := .up, tx := none } }

/-- The machine after reset with record `r` for flow 0. -/
def one (r : FlowRecord) : State :=
  State.reset.setFlow 0 r

/-- An OPEN flow to port F, channel 0, priority 0, queue limit 64, with the contract of reset. -/
def openRecord : FlowRecord :=
  { FlowRecord.reset with lifecycle := .opened, egressPort := .F, queueLimit := 64 }

/-- A contract of a mode: P 100, C 2, E 1, T 10. -/
def contract (m : Mode) : Contract :=
  { mode := m, period := 100, cycle := 2, extension := 1, tolerance := 10 }

/-- The Active entry of port T, channel 0 (and of channel 1022) names flow 0. -/
def mapped (s : State) : State :=
  s.withMap { s.map with bankA := (s.map.bankA.writeRun .T 0 [some 0]).writeRun .T 1022 [some 0] }

/-- Flow 0 stands in the ready list of port F for priority 0. -/
def listed (s : State) : State :=
  s.setReadyList .F 0 [0]

/-- A user cell with payload bytes 0, on channel `ch`. -/
def userBytes (ch : Channel) (k : Kind) : List Byte :=
  (buildCell ch k 5 7 (Vector.replicate 28 0)).bytes

/-- A request that waits in `ask s l` is executed there when its code and tag are the ones asked for. -/
theorem ask_executes (s : State) (l : List Byte) (code : Byte) (hc : requestCode (payloadOf l) = code)
    (ht : requestTag (payloadOf l) = s.mgmt.expected) (hr : s.mgmt.responses.length < 4) :
    Executes (ask s l) code (payloadOf l) [] :=
  ⟨rfl, hr, hc, ht⟩

/-- The record of every flow of a fresh machine with record `r` for flow 0. -/
theorem one_flow (r : FlowRecord) (f : FlowNo) : (one r).flow f = if f = 0 then r else FlowRecord.reset := by
  rw [one, State.flow_setFlow]
  simp [State.flow, State.reset, Vector.get_eq_getElem]

/-! ## Values from the spec -/

/-- R110: the check of the three bytes 00 00 00, of 00 00 01 and of 01 00 00. -/
theorem test_crc8_of_the_spec : crc8 0x000000 = 0x00 ∧ crc8 0x000001 = 0x07 ∧ crc8 0x010000 = 0x6B := by
  decide +kernel

/-- R192: an IDLE cell is 32 zero bytes; a response or notice cell begins FF, F0, 00 and the check of those bytes. -/
theorem test_cells_of_the_spec : idleCell.bytes = List.replicate 32 0 ∧
    ((managementCell (payloadOf [])).bytes.take 3) = [0xFF, 0xF0, 0x00] := by decide +kernel

/-- R192: channel 683 = 10101010 11, USER_DE 10, carry 0101, label 11001100. -/
theorem test_header_layout : ((buildCell 0b1010101011 .userDe 0b0101 0b11001100 (payloadOf [])).bytes.take 3)
    = [0b10101010, 0b11100101, 0b11001100] := by decide +kernel

/-- R45: with now 0x000010 and D 0xFFFFF0, now is not before D. -/
theorem test_modular_order : notBefore 0x000010 0xFFFFF0 = true ∧ notBefore 0xFFFFF0 0x000010 = false := by decide

/-- The example at the wrap of chapter 1: D 0x000005 and T 10; 0xFFFFFC conforms and 0xFFFFFA does not. -/
theorem test_judgement_at_the_wrap :
    (({ openRecord with active := contract .policeTag, due := 0x000005 } : FlowRecord).judge 0xFFFFFC = .conforming) ∧
    (({ openRecord with active := contract .policeTag, due := 0x000005 } : FlowRecord).judge 0xFFFFFA = .nonconforming) := by
  decide +kernel

/-- R195: the code of an entry is verdict × 5 + outcome. -/
theorem test_probe_entry_code :
    ({ interval := 3, verdict := .unjudged, outcome := .discardedPool } : ProbeEntry).code = 14 := by decide

/-- The field that `g` reads in the state a command answers. -/
def after? {α : Type} (o : Host.Outcome State Fault Refusal) (g : State → α) : Option α :=
  match o with
  | .next t => some (g t)
  | .fault _ => none
  | .refused _ => none

theorem test_tick : after? (exec .tick State.reset) (fun t => t.time.now) = some 1 := by decide +kernel

theorem test_idle_step : after? (Sys2Proof.Machine.step State.reset) (fun t => t.time.count) = some 1 := by decide +kernel

theorem test_arrival_enqueues : after? (exec (.arrival .T (userBytes 0 .user)) (mapped (up (one openRecord))))
    (fun t => ((t.flow 0).queue, (t.flow 0).sched, t.buffer.occupancy)) = some ([0], .ready, 1) := by decide +kernel

theorem test_egress_sends : after? (exec (.egressSlot .F) (listed (up (one { openRecord with queue := [3], sched := .ready }))))
    (fun t => ((t.flow 0).queue, (t.flow 0).sched, (t.portCounters .F).sent)) = some ([], .empty, 1) := by decide +kernel

theorem test_lineOk : after? (exec (.lineOkAssertion .T) State.reset) (fun t => (t.portT.link, t.notices.records.length))
    = some (.up, 1) := by decide +kernel

theorem test_sync : after? (exec .sync (ask State.reset [9, 1])) (fun t => (t.mgmt.expected, t.mgmt.requests.length))
    = some (10, 0) := by decide +kernel

theorem test_openFlow : after? (exec .openFlow (ask State.reset [0, 4, 0, 5, 1, 0, 7, 2, 64, 3, 0, 100, 2, 1, 0, 10]))
    (fun t => ((t.flow 5).lifecycle, (t.flow 5).active, (t.flow 5).queueLimit)) = some (.opened, contract .pace, 64) := by
  decide +kernel

theorem test_writeMap : after? (exec .writeMap (ask State.reset [0, 12, 0, 3, 0xFE, 1, 0, 7]))
    (fun t => t.mgmt.responses.map Response.status) = some [.ok] := by decide +kernel

theorem test_writeRun : (Bank.none.writeRun .T 1 [some 7]).entry .T 1 = some 7 ∧
    (Bank.none.writeRun .T 1 [some 7]).entry .T 0 = none := by decide +kernel

theorem test_grant : after? (exec .grantNotices (ask State.reset [0, 20, 32])) (fun t => t.notices.credit) = some 32 := by
  decide +kernel

theorem test_unknown_request : after? (exec .unknownRequest (ask State.reset [0, 0x17]))
    (fun t => t.mgmt.responses.map Response.status) = some [.badRequest] := by decide +kernel

/-! ## Witnesses: states and operands that meet the hypotheses of the statements, clause by clause -/

theorem test_witness_StepRunsFrontCommand : ({ State.reset with pending := [.tick] } : State).pending = .tick :: [] := rfl

theorem test_witness_IdleStepsReachTheTick :
    (State.reset.pending = [] ∧ State.reset.resetHeld = false ∧ State.reset.time.count < State.reset.time.period ∧
      49 < State.reset.time.period - State.reset.time.count) ∧
    (State.reset.holdReset.pending = [] ∧ State.reset.holdReset.resetHeld = true) := by
  refine ⟨⟨rfl, rfl, ?_, ?_⟩, rfl, rfl⟩ <;> decide

theorem test_witness_FlowBalanceIsKept : ∃ t, exec (.egressSlot .F) State.reset = .next t ∧
    Instr.egressSlot .F ≠ .openFlow ∧ Instr.egressSlot .F ≠ .readCounters ∧ Instr.egressSlot .F ≠ .softReset ∧
    Instr.egressSlot .F ≠ .resetAssertion :=
  ⟨_, rfl, by decide, by decide, by decide, by decide⟩

theorem test_witness_BothResetsLeaveTheTabledValues :
    (∃ t, exec .resetAssertion State.reset = .next t) ∧
    (Executes (ask State.reset [0, 0x16]) 0x16 (payloadOf [0, 0x16]) [] ∧
      ∃ t, exec .softReset (ask State.reset [0, 0x16]) = .next t) :=
  ⟨⟨_, rfl⟩, ask_executes _ _ _ (by decide) (by decide) (by decide), ⟨_, rfl⟩⟩

theorem test_witness_ResetInputHoldsAndReleases : State.reset.holdReset.resetHeld = true ∧ State.reset.resetHeld = false ∧
    ((up State.reset).holdReset.port .T).lineOk = true := ⟨rfl, rfl, rfl⟩

theorem test_witness_HeldResetStopsThePart : (up State.reset).holdReset.resetHeld = true ∧ LinkLaw (up State.reset).holdReset ∧
    (up State.reset).holdReset.mgmt.requests = [] ∧ isRequestRow .sync = true := by
  refine ⟨rfl, fun p => ?_, rfl, rfl⟩
  cases p <;> exact ⟨⟨fun h => (nomatch h), fun h => (nomatch h.2)⟩, fun _ => rfl⟩

theorem test_witness_LineOkMovesTheLink :
    (State.reset.resetHeld = false ∧ ∀ p, (State.reset.port p).lineOk = false) ∧
    ((up State.reset).resetHeld = false ∧ ∀ p, ((up State.reset).port p).lineOk = true) := by
  refine ⟨⟨rfl, fun p => ?_⟩, rfl, fun p => ?_⟩ <;> cases p <;> rfl

theorem test_witness_PaceTimeChangesByTheTickAlone : State.reset.resetHeld = false ∧
    (∃ t, exec .resetAssertion State.reset = .next t) ∧ (∃ t, exec .softReset State.reset = .next t) ∧
    (∃ t, exec .calendarService State.reset = .next t) ∧ (∃ t, exec .setTimebase State.reset = .next t) :=
  ⟨rfl, ⟨_, rfl⟩, ⟨_, rfl⟩, ⟨_, rfl⟩, ⟨_, rfl⟩⟩

/-- Flow 0 is WAITING with X 1, and stands in calendar slot 1. -/
def waitingState : State :=
  (one { openRecord with queue := [0], active := contract .pace, sched := .waiting, eligible := 1, due := 11 }).setCalendarSlot 1 [0]

theorem test_witness_TickServicesTheCalendarAndTheSweep : waitingState.resetHeld = false ∧ waitingState.tickMoves 0 ∧
    State.reset.resetHeld = false ∧ (∀ f, ¬ State.reset.tickMoves f) ∧
    ((one { openRecord with due := 0xFF0001 }).tickRebases 0) := by
  refine ⟨rfl, ?_, rfl, fun f h => ?_, ?_⟩
  · rw [State.tickMoves]
    decide +kernel
  · have h' := h.1
    simp [State.calendarSlot, State.reset, calendarReset, Vector.get_eq_getElem] at h'
  · rw [State.tickRebases]
    decide +kernel

/-- A user cell with a wrong check. -/
def badBytes : List Byte :=
  0 :: 0 :: 0 :: 1 :: List.replicate 28 0

theorem test_witness_BadHeaderIsCountedAndReported : badBytes.length = 32 ∧ ((up State.reset).port .T).link = .up ∧
    crc8 (Cell.ofBytes badBytes).top ≠ (Cell.ofBytes badBytes).check := by
  decide +kernel

/-- The conditions under which the clauses on a cell with a good header apply. -/
def goodCell (l : List Byte) : Bool :=
  l.length = 32 && crc8 (Cell.ofBytes l).top = (Cell.ofBytes l).check

/-- `s` with `n` requests waiting. -/
def waiting (s : State) (n : Nat) : State :=
  { s with mgmt := { s.mgmt with requests := List.replicate n (payloadOf []) } }

theorem test_witness_ReceivedCellsAreClassified :
    (State.reset.port .T).link = .down ∧ ((up State.reset).port .T).link = .up ∧ ((up State.reset).port .F).link = .up ∧
    (goodCell (userBytes 0 .idle) = true ∧ (Cell.ofBytes (userBytes 0 .idle)).kind = .idle) ∧
    (goodCell (userBytes 1023 .management) = true ∧ (Cell.ofBytes (userBytes 1023 .management)).kind = .management ∧
      (Cell.ofBytes (userBytes 1023 .management)).channel.toNat = 1023) ∧
    (goodCell (userBytes 1022 .management) = true ∧ (Cell.ofBytes (userBytes 1022 .management)).channel.toNat ≠ 1023) ∧
    (goodCell (userBytes 1023 .userDe) = true ∧ (Cell.ofBytes (userBytes 1023 .userDe)).kind = .userDe ∧
      (Cell.ofBytes (userBytes 1023 .userDe)).channel.toNat = 1023) ∧
    (waiting (up State.reset) 3).mgmt.requests.length < 4 ∧ 4 ≤ (waiting (up State.reset) 4).mgmt.requests.length ∧
    (goodCell (userBytes 1022 .user) = true ∧ (Cell.ofBytes (userBytes 1022 .user)).kind = .user ∧
      (Cell.ofBytes (userBytes 1022 .user)).channel.toNat = (1022 : UserChannel).val) := by
  decide +kernel

theorem test_witness_ReceivedCellsAreClassified_entries :
    (up State.reset).map.activeBank.entry .T 1022 = none ∧
    (mapped (up State.reset)).map.activeBank.entry .T 1022 = some 0 ∧
    (mapped (up State.reset)).map.activeBank.entry .T 0 = some 0 := by
  simp [up, mapped, State.reset, ChannelMap.reset, ChannelMap.activeBank, ChannelMap.bank, Bank.writeRun, Bank.setEntries,
    Bank.entry, Bank.entries, Bank.none, Vector.get_eq_getElem]

theorem test_witness_JudgementAndDueTimeUpdate : (contract .policeTag).mode = .policeTag ∧ (contract .policeDrop).mode = .policeDrop ∧
    (contract .pace).mode = .pace ∧ FlowRecord.reset.active.mode = .pass := ⟨rfl, rfl, rfl, rfl⟩

/-- A cell of no mark. -/
def plainCell : StoredCell :=
  { de := false, carry := 0, label := 0, payload := Vector.replicate 28 0 }

/-- A POLICE_DROP flow whose due time is so far ahead that a cell now is late. -/
def lateRecord (m : Mode) : FlowRecord :=
  { openRecord with active := contract m, due := 1000 }

/-- The buffer of reset with level 2, which sheds marked cells, raised. -/
def shedding (s : State) : State :=
  s.withBuffer { s.buffer with level2 := { s.buffer.level2 with raised := true } }

theorem test_witness_AdmissionDiscardsInOrder :
    (((one (lateRecord .policeDrop)).flow 0).active.mode = .policeDrop ∧ 2 ^ 23 ≤ ((one (lateRecord .policeDrop)).time.now -
      (((one (lateRecord .policeDrop)).flow 0).due - ((one (lateRecord .policeDrop)).flow 0).active.tolerance.setWidth 24)).toNat) ∧
    (((shedding (one (lateRecord .policeTag))).flow 0).active.mode = .policeTag ∧
      ((shedding (one (lateRecord .policeTag))).buffer.level .two).raised = true ∧
      ((shedding (one (lateRecord .policeTag))).buffer.level .two).action = .shedDe) ∧
    (((one { openRecord with queueLimit := 1, queue := [0] }).flow 0).queueLimit
      ≤ ((one { openRecord with queueLimit := 1, queue := [0] }).flow 0).queue.length) ∧
    (((one openRecord).withBuffer { (one openRecord).buffer with freeList := [] }).buffer.occupancy = 1024) ∧
    ((one openRecord).buffer.occupancy ≠ 1024 ∧ ((one openRecord).flow 0).queue.length < ((one openRecord).flow 0).queueLimit) ∧
    (∀ l, ((one openRecord).buffer.level l).raised = false) ∧ ((one openRecord).flow 0).active.mode ≠ .policeDrop := by
  refine ⟨?_, ?_, ?_, ?_, ?_, ?_, ?_⟩
  · decide +kernel
  · decide +kernel
  · decide +kernel
  · decide +kernel
  · decide +kernel
  · intro l
    cases l <;> rfl
  · decide +kernel

theorem test_witness_EnqueueStoresUpdatesAndPlaces :
    ((one openRecord).admission 0 plainCell = .queued ∧
      (one openRecord).buffer.freeList = 0 :: (List.finRange 1024).tail ∧ ((one openRecord).flow 0).StandsRight) ∧
    ((one { lateRecord .policeTag with cyclePos := 1, due := 0, pending := some (contract .policeTag), sched := .ready,
                                       queue := [3] }).admission 0 plainCell = .queued ∧
      ((one { lateRecord .policeTag with cyclePos := 1, due := 0, pending := some (contract .policeTag), sched := .ready,
                                         queue := [3] }).flow 0).StandsRight) := by
  refine ⟨⟨?_, ?_, ?_⟩, ?_, ?_⟩
  · decide +kernel
  · decide +kernel
  · rw [FlowRecord.StandsRight]
    decide +kernel
  · decide +kernel
  · rw [FlowRecord.StandsRight]
    decide +kernel

/-- The probe ARMED on flow 0 for 2 arrivals, `n` of them captured. -/
def armed (s : State) (n : Nat) : State :=
  s.withProbe { state := .armed, flow := 0, target := 2, lastStamp := 0,
                entries := List.replicate n { interval := 0, verdict := .unjudged, outcome := .queued } }

theorem test_witness_ProbeCapturesEachAdmission :
    (¬ (State.reset.probe.state = .armed ∧ State.reset.probe.flow = 0)) ∧
    ((armed State.reset 0).probe.state = .armed ∧ (armed State.reset 0).probe.flow = 0 ∧
      (armed State.reset 0).probe.entries.length + 1 < (armed State.reset 0).probe.target) ∧
    ((armed State.reset 1).probe.state = .armed ∧ (armed State.reset 1).probe.flow = 0 ∧
      (armed State.reset 1).probe.target ≤ (armed State.reset 1).probe.entries.length + 1) := by
  decide +kernel

/-- What the cell `userBytes 0 .user` hands to admission. -/
def handed : StoredCell :=
  { de := false, carry := 5, label := 7, payload := (Cell.ofBytes (userBytes 0 .user)).payload }

theorem mapped_handsOver (s : State) (h : (mapped (up s)).map.activeBank.entry .T 0 = some 0) :
    HandsOver (mapped (up s)) .T (userBytes 0 .user) 0 handed :=
  ⟨by decide +kernel, rfl, by decide +kernel, .inl (by decide +kernel), ⟨0, by decide +kernel, h⟩, by decide +kernel⟩

/-- An IDLE cell hands nothing over. -/
theorem idle_handsOver_nothing (s : State) (p : Port) (f : FlowNo) (c : StoredCell) : ¬ HandsOver s p (userBytes 0 .idle) f c :=
  fun h => absurd h.kind (by decide +kernel)

/-- The probe ARMED on flow 1 with one entry wanting, where port T, channel 0 is mapped to flow 0. -/
def elsewhere : State :=
  (one openRecord).withProbe { (armed State.reset 1).probe with flow := 1 }

theorem test_witness_ProbeCompletionIsTheLastCapture :
    (HandsOver (mapped (up (armed (one openRecord) 1))) .T (userBytes 0 .user) 0 handed ∧
      (mapped (up (armed (one openRecord) 1))).probe.state = .armed ∧ (mapped (up (armed (one openRecord) 1))).probe.flow = 0 ∧
      (mapped (up (armed (one openRecord) 1))).probe.target ≤ (mapped (up (armed (one openRecord) 1))).probe.entries.length + 1) ∧
    (State.reset.port .T).link = .down ∧ (∀ f c, ¬ HandsOver (up State.reset) .T (userBytes 0 .idle) f c) ∧
    (∀ f c, HandsOver (mapped (up elsewhere)) .T (userBytes 0 .user) f c → (mapped (up elsewhere)).probe.flow ≠ f) ∧
    (mapped (up elsewhere)).probe.state = .armed ∧
    State.reset.probe.state ≠ .armed ∧ (armed State.reset 0).probe.entries.length + 1 < (armed State.reset 0).probe.target := by
  refine ⟨⟨mapped_handsOver _ (by decide +kernel), rfl, rfl, by decide +kernel⟩, rfl, idle_handsOver_nothing _ _, fun f c h => ?_,
    rfl, by decide, by decide⟩
  rw [(h.unique (mapped_handsOver _ (by decide +kernel))).1]
  decide +kernel

/-- A flow at the last position of its cycle, with a contract pending and one cell queued. -/
def boundaryRecord (m : Mode) : FlowRecord :=
  { openRecord with active := contract m, cyclePos := 1, pending := some (contract .pace), sched := .ready, queue := [3] }

/-- Flow 0, with this record, at the head of its ready list, both ports UP. -/
def sending (r : FlowRecord) : State :=
  listed (up (one r))

/-- What holds of the flow that the slot would serve holds of every flow that it would serve. -/
theorem of_slotChoice {s : State} {p : Port} {q : Priority} {f : FlowNo} {P : FlowNo → Prop}
    (h : s.slotChoice p = .departure q f) (hf : P f) (q' : Priority) (f' : FlowNo) (h' : s.slotChoice p = .departure q' f') :
    P f' := by
  rw [h] at h'
  cases h'
  exact hf

theorem test_witness_CycleBoundaryPromotes_slot :
    ((sending (boundaryRecord .pace)).port .F).link = .up ∧
    (sending (boundaryRecord .pace)).slotChoice .F = .departure 0 0 ∧
    ((sending (boundaryRecord .pace)).flow 0).queue = 3 :: [] ∧
    ((sending (boundaryRecord .pace)).flow 0).active.mode = .pace ∧
    (((sending (boundaryRecord .pace)).flow 0).cyclePos + 1) % ((sending (boundaryRecord .pace)).flow 0).active.cycle = 0 ∧
    ((sending (boundaryRecord .pace)).flow 0).pending = some (contract .pace) ∧
    (State.reset.port .F).link = .down ∧ State.reset.slotChoice .F = .idle := by
  decide +kernel

theorem test_witness_CycleBoundaryPromotes_slot_without :
    (∀ q f, (sending { boundaryRecord .pace with cyclePos := 0 }).slotChoice .F = .departure q f →
      (((sending { boundaryRecord .pace with cyclePos := 0 }).flow f).cyclePos + 1)
        % ((sending { boundaryRecord .pace with cyclePos := 0 }).flow f).active.cycle ≠ 0) ∧
    (∀ q f, (sending { boundaryRecord .pace with pending := none }).slotChoice .F = .departure q f →
      ((sending { boundaryRecord .pace with pending := none }).flow f).pending = none) ∧
    (∀ q f, (sending (boundaryRecord .policeTag)).slotChoice .F = .departure q f →
      ((sending (boundaryRecord .policeTag)).flow f).active.mode ≠ .pace) ∧
    (∀ q f, (sending { boundaryRecord .pace with queue := [] }).slotChoice .F = .departure q f →
      ((sending { boundaryRecord .pace with queue := [] }).flow f).queue = []) :=
  ⟨of_slotChoice (q := 0) (f := 0) (by decide +kernel) (by decide +kernel),
    of_slotChoice (q := 0) (f := 0) (by decide +kernel) (by decide +kernel),
    of_slotChoice (q := 0) (f := 0) (by decide +kernel) (by decide +kernel),
    of_slotChoice (q := 0) (f := 0) (by decide +kernel) (by decide +kernel)⟩

/-- Flow 0 mapped from port T, channel 0, both ports UP. -/
def receiving (r : FlowRecord) : State :=
  mapped (up (one r))

theorem test_witness_CycleBoundaryPromotes_arrival :
    HandsOver (receiving (boundaryRecord .policeTag)) .T (userBytes 0 .user) 0 handed ∧
    (receiving (boundaryRecord .policeTag)).admission 0 handed = .queued ∧
    ((receiving (boundaryRecord .policeTag)).flow 0).judge 0 = .conforming ∧
    (((receiving (boundaryRecord .policeTag)).flow 0).cyclePos + 1)
      % ((receiving (boundaryRecord .policeTag)).flow 0).active.cycle = 0 ∧
    ((receiving (boundaryRecord .policeTag)).flow 0).pending = some (contract .pace) ∧
    (State.reset.port .T).link = .down ∧ ∀ f c, ¬ HandsOver (up State.reset) .T (userBytes 0 .idle) f c :=
  ⟨mapped_handsOver _ (by decide +kernel), by decide +kernel, by decide +kernel, by decide +kernel, by decide +kernel, rfl,
    idle_handsOver_nothing _ _⟩

/-- What holds of the flow and the cell that the arrival hands over holds of all that it hands over. -/
theorem of_handsOver {s : State} {p : Port} {cell : List Byte} {f : FlowNo} {c : StoredCell} {P : FlowNo → StoredCell → Prop}
    (h : HandsOver s p cell f c) (hf : P f c) (f' : FlowNo) (c' : StoredCell) (h' : HandsOver s p cell f' c') : P f' c' := by
  obtain ⟨rfl, rfl⟩ := h.unique h'
  exact hf

theorem test_witness_CycleBoundaryPromotes_arrival_without :
    (∀ f c, HandsOver (receiving { boundaryRecord .policeTag with cyclePos := 0 }) .T (userBytes 0 .user) f c →
      (((receiving { boundaryRecord .policeTag with cyclePos := 0 }).flow f).cyclePos + 1)
        % ((receiving { boundaryRecord .policeTag with cyclePos := 0 }).flow f).active.cycle ≠ 0) ∧
    (∀ f c, HandsOver (receiving { boundaryRecord .policeTag with pending := none }) .T (userBytes 0 .user) f c →
      ((receiving { boundaryRecord .policeTag with pending := none }).flow f).pending = none) ∧
    (∀ f c, HandsOver (receiving openRecord) .T (userBytes 0 .user) f c →
      ((receiving openRecord).flow f).judge 0 ≠ .conforming) ∧
    (∀ f c, HandsOver (receiving { boundaryRecord .policeTag with queueLimit := 1 }) .T (userBytes 0 .user) f c →
      (receiving { boundaryRecord .policeTag with queueLimit := 1 }).admission f c ≠ .queued) :=
  ⟨of_handsOver (mapped_handsOver _ (by decide +kernel)) (by decide +kernel),
    of_handsOver (mapped_handsOver _ (by decide +kernel)) (by decide +kernel),
    of_handsOver (mapped_handsOver _ (by decide +kernel)) (by decide +kernel),
    of_handsOver (mapped_handsOver _ (by decide +kernel)) (by decide +kernel)⟩

theorem test_witness_PromotionReplacesAndReschedules :
    ((one (boundaryRecord .pace)).flow 0).pending = some (contract .pace) ∧ ((one (boundaryRecord .pace)).flow 0).StandsRight := by
  rw [FlowRecord.StandsRight]
  decide +kernel

/-- A response queued, Port T UP. -/
def answeredState : State :=
  { up State.reset with mgmt := { State.reset.mgmt with responses := [{ tag := 0, code := 1, status := .ok, data := dataOf [] }] } }

theorem test_witness_SlotCarriesResponseOrIdle :
    (answeredState.portT.link = .up ∧ answeredState.mgmt.responses = [{ tag := 0, code := 1, status := .ok, data := dataOf [] }]) ∧
    (∀ p, ((up State.reset).port p).link = .up ∧ (∀ q, (up State.reset).readyList p q = [])) ∧
    ((up State.reset).mgmt.responses = [] ∧ (up State.reset).notices.records = []) ∧ ∀ p, (State.reset.port p).link = .down := by
  refine ⟨⟨rfl, rfl⟩, fun p => ?_, ⟨rfl, rfl⟩, fun p => ?_⟩
  · cases p <;> exact ⟨rfl, by decide +kernel⟩
  · cases p <;> rfl

/-- An INFO record, an older and a newer NORMAL record, Port T UP and one credit. -/
def noticeState : State :=
  { up State.reset with notices := { State.reset.notices with credit := 1, records :=
    [{ what := .probeDone 1, count := 1, stamp := 0, detail := .complete },
     { what := .linkUp .T, count := 1, stamp := 0, detail := .none },
     { what := .linkUp .F, count := 1, stamp := 0, detail := .none }] } }

theorem test_witness_SlotCarriesTheMostSevereOldestNotice :
    noticeState.portT.link = .up ∧ noticeState.mgmt.responses = [] ∧ 0 < noticeState.notices.credit ∧
    noticeState.notices.records = [{ what := .probeDone 1, count := 1, stamp := 0, detail := .complete }] ++
      { what := .linkUp .T, count := 1, stamp := 0, detail := .none } ::
        [{ what := .linkUp .F, count := 1, stamp := 0, detail := .none }] ∧
    (∀ y ∈ ([{ what := .probeDone 1, count := 1, stamp := 0, detail := .complete }] : List NoticeRecord),
      ({ what := .linkUp .T, count := 1, stamp := 0, detail := .none } : NoticeRecord).severity.code < y.severity.code) ∧
    (∀ y ∈ ([{ what := .linkUp .F, count := 1, stamp := 0, detail := .none }] : List NoticeRecord),
      ({ what := .linkUp .T, count := 1, stamp := 0, detail := .none } : NoticeRecord).severity.code ≤ y.severity.code) := by
  decide +kernel

/-- Flow 0 DRAINING with its last cell, at the head of its ready list. -/
def drainingState : State :=
  listed (up (one { openRecord with lifecycle := .draining, queue := [3], sched := .ready }))

theorem test_witness_DepartureSendsReturnsAndReplaces :
    (drainingState.port .F).link = .up ∧ (∀ j : Priority, j < 0 → drainingState.readyList .F j = []) ∧
    drainingState.readyList .F 0 = 0 :: [] ∧ (drainingState.flow 0).queue = 3 :: [] ∧ (drainingState.flow 0).sched = .ready ∧
    (drainingState.flow 0).egressPort = .F ∧ (drainingState.flow 0).priority = 0 ∧
    ((drainingState.flow 0).lifecycle = .opened ∨ (drainingState.flow 0).lifecycle = .draining) := by
  decide +kernel

theorem test_witness_DrainCompletionClosesTheFlow :
    (drainingState.port .F).link = .up ∧ drainingState.slotChoice .F = .departure 0 0 ∧ (drainingState.flow 0).queue = [3] ∧
    (drainingState.flow 0).lifecycle = .draining ∧ (State.reset.port .F).link = .down ∧
    State.reset.slotChoice .F = .idle := by
  decide +kernel

theorem test_witness_DrainCompletionClosesTheFlow_without :
    (∀ q f, (sending { openRecord with lifecycle := .draining, queue := [3, 4], sched := .ready }).slotChoice .F = .departure q f →
      ((sending { openRecord with lifecycle := .draining, queue := [3, 4], sched := .ready }).flow f).queue.length ≠ 1) ∧
    (∀ q f, (sending { openRecord with queue := [3], sched := .ready }).slotChoice .F = .departure q f →
      ((sending { openRecord with queue := [3], sched := .ready }).flow f).lifecycle ≠ .draining) :=
  ⟨of_slotChoice (q := 0) (f := 0) (by decide +kernel) (by decide +kernel),
    of_slotChoice (q := 0) (f := 0) (by decide +kernel) (by decide +kernel)⟩

theorem test_witness_CheckFindsSingleBitErrors : idleCell.good = true := by decide +kernel

theorem test_witness_TagSequencingTable :
    Takes (ask State.reset [7, 1]) (payloadOf [7, 1]) [] ∧ requestCode (payloadOf [7, 1]) = 0x01 ∧
    Takes (ask answeredState [255, 2]) (payloadOf [255, 2]) [] ∧ requestCode (payloadOf [255, 2]) ≠ 0x01 ∧
    requestTag (payloadOf [255, 2]) ≠ State.reset.mgmt.expected ∧
    requestTag (payloadOf [255, 2]) = State.reset.mgmt.expected - 1 ∧ State.reset.mgmt.cache = none := by
  refine ⟨⟨rfl, by decide⟩, by decide, ⟨rfl, by decide⟩, by decide, by decide, by decide, rfl⟩

/-- A state whose cache is valid, with a request of tag Q − 1 waiting. -/
def replayState (l : List Byte) : State :=
  ask { State.reset with mgmt := { State.reset.mgmt with
    cache := some { tag := 255, code := 2, status := .ok, data := dataOf [] } } } l

theorem test_witness_replays :
    Takes (replayState [255, 2]) (payloadOf [255, 2]) [] ∧ requestCode (payloadOf [255, 2]) = 0x02 ∧
    Takes (replayState [255, 0x10]) (payloadOf [255, 0x10]) [] ∧ requestCode (payloadOf [255, 0x10]) = 0x10 ∧
    requestTag (payloadOf [255, 2]) = (replayState []).mgmt.expected - 1 ∧
    requestTag (payloadOf [255, 0x10]) = (replayState []).mgmt.expected - 1 ∧
    (replayState []).mgmt.cache = some { tag := 255, code := 2, status := .ok, data := dataOf [] } ∧
    Takes (replayState [254, 2]) (payloadOf [254, 2]) [] ∧
    ¬ (requestTag (payloadOf [254, 2]) = (replayState []).mgmt.expected - 1 ∧ (replayState []).mgmt.cache ≠ none) := by
  refine ⟨⟨rfl, by decide⟩, by decide, ⟨rfl, by decide⟩, by decide, by decide, by decide, rfl, ⟨rfl, by decide⟩, ?_⟩
  exact fun h => absurd h.1 (by decide)

theorem test_witness_RefusalsAndUnknownRequestsChangeNothing :
    isRequestRow .unknownRequest = true ∧
    (∃ t x, exec .unknownRequest (ask State.reset [0, 0x17]) = .next t ∧
      t.mgmt.responses = (ask State.reset [0, 0x17]).mgmt.responses ++ [x] ∧ x.status ≠ .ok ∧ x.status ≠ .accepted) ∧
    Executes (ask State.reset [0, 0]) 0x00 (payloadOf [0, 0]) [] ∧
    Executes (ask State.reset [0, 0x17]) 0x17 (payloadOf [0, 0x17]) [] := by
  refine ⟨rfl, ⟨_, responseTo (payloadOf [0, 0x17]) .badRequest [], rfl, by decide +kernel, by decide, by decide⟩, ?_, ?_⟩
  · exact ask_executes _ _ _ (by decide) (by decide) (by decide)
  · exact ask_executes _ _ _ (by decide) (by decide) (by decide)

theorem test_witness_NothingIsTakenWithoutRoom : isRequestRow .sync = true ∧
    4 ≤ ({ State.reset.mgmt with responses := List.replicate 4 { tag := 0, code := 1, status := .ok, data := dataOf [] } } :
      Management).responses.length ∧
    State.reset.mgmt.requests = [] ∧ (ask State.reset [0, 2]).mgmt.requests = [payloadOf [0, 2]] ∧
    rowOf (requestCode (payloadOf [0, 2])) ≠ .sync := by
  refine ⟨rfl, by decide, rfl, rfl, by decide⟩

theorem test_witness_RequestParametersAreReadAsListed :
    2 + 25 < 28 ∧ param (payloadOf (List.replicate 27 0 ++ [0xA5])) 25 = 0xA5 := by decide +kernel

/-! ### Requests: each line is a request that is executed, and what its clause asks of it -/

theorem test_witness_SyncAndReadTimeAnswer : Takes (ask State.reset [200, 1]) (payloadOf [200, 1]) [] ∧
    Executes (ask State.reset [0, 2]) 0x02 (payloadOf [0, 2]) [] :=
  ⟨⟨rfl, by decide⟩, ask_executes _ _ _ (by decide) (by decide) (by decide)⟩

theorem test_witness_SetTimebaseStoresTheDivisor :
    Executes (ask State.reset [0, 3, 0, 0]) 0x03 (payloadOf [0, 3, 0, 0]) [] ∧
    (param2 (payloadOf [0, 3, 0, 0]) 0).toNat < 1 ∧ 4096 < (param2 (payloadOf [0, 3, 0x10, 1]) 0).toNat ∧
    Executes (ask (one openRecord) [0, 3, 0x10, 0]) 0x03 (payloadOf [0, 3, 0x10, 0]) [] ∧
    (param2 (payloadOf [0, 3, 0x10, 0]) 0).toNat = 4096 ∧ ((one openRecord).flow 0).lifecycle ≠ .unused ∧
    (param2 (payloadOf [0, 3, 0, 1]) 0).toNat = 1 ∧ ∀ f, (State.reset.flow f).lifecycle = .unused := by
  refine ⟨ask_executes _ _ _ (by decide) (by decide) (by decide), by decide, by decide,
    ask_executes _ _ _ (by decide) (by decide) (by decide), by decide, by decide +kernel, by decide, fun f => ?_⟩
  simp [State.flow, State.reset, FlowRecord.reset, Vector.get_eq_getElem]

/-- An OPEN_FLOW of flow 255 with everything at the top of its range. -/
def openBytes : List Byte :=
  [0, 4, 0, 255, 1, 0x03, 0xFE, 7, 64, 3, 0xFF, 0xFF, 16, 15, 0xFF, 0xFF]

theorem test_witness_OpenFlowChecksAndOpens :
    Executes (ask State.reset openBytes) 0x04 (payloadOf openBytes) [] ∧ flowOf (param2 (payloadOf openBytes) 0) = some 255 ∧
    channelOf (param2 (payloadOf openBytes) 3) = some 1022 ∧ portOf (param (payloadOf openBytes) 2) = some .F ∧
    priorityOf (param (payloadOf openBytes) 5) = some 7 ∧ (param (payloadOf openBytes) 6).toNat = 64 ∧
    contractOf (payloadOf openBytes) 7 = some { mode := .pace, period := 65535, cycle := 16, extension := 15, tolerance := 65535 } ∧
    (State.reset.flow 255).lifecycle = .unused ∧
    flowOf (param2 (payloadOf [0, 4, 1, 0]) 0) = none ∧ channelOf (param2 (payloadOf [0, 4, 0, 0, 0, 0x03, 0xFF]) 3) = none ∧
    portOf (param (payloadOf [0, 4, 0, 0, 2]) 2) = none ∧ priorityOf (param (payloadOf [0, 4, 0, 0, 0, 0, 0, 8]) 5) = none ∧
    (param (payloadOf [0, 4, 0, 0, 0, 0, 0, 0, 65]) 6).toNat = 65 ∧
    contractOf (payloadOf [0, 4, 0, 0, 0, 0, 0, 0, 1, 0, 0, 1, 1, 0, 0, 0]) 7 = none ∧
    ((one openRecord).flow 0).lifecycle ≠ .unused := by
  refine ⟨ask_executes _ _ _ (by decide) (by decide) (by decide), ?_⟩
  decide +kernel

/-- A SET_CONTRACT of flow 0 with a PACE contract. -/
def contractBytes : List Byte :=
  [0, 5, 0, 0, 3, 0, 100, 2, 1, 0, 10]

theorem test_witness_ContractsAreSetAndCommitted :
    Executes (ask (one openRecord) contractBytes) 0x05 (payloadOf contractBytes) [] ∧
    flowOf (param2 (payloadOf contractBytes) 0) = some 0 ∧ contractOf (payloadOf contractBytes) 2 = some (contract .pace) ∧
    ((one openRecord).flow 0).lifecycle = .opened ∧ ((one openRecord).flow 0).cyclePos = 0 ∧
    ((one { openRecord with active := contract .pace, cyclePos := 1 }).flow 0).cyclePos ≠ 0 ∧
    ((one { openRecord with active := contract .pace, cyclePos := 1 }).flow 0).pending = none ∧
    ((one (boundaryRecord .pace)).flow 0).pending ≠ none ∧
    Executes (ask (one (boundaryRecord .pace)) [0, 6, 0, 0]) 0x06 (payloadOf [0, 6, 0, 0]) [] := by
  refine ⟨ask_executes _ _ _ (by decide) (by decide) (by decide), by decide +kernel, by decide +kernel, by decide +kernel,
    by decide +kernel, by decide +kernel, by decide +kernel, by decide +kernel,
    ask_executes _ _ _ (by decide) (by decide) (by decide)⟩

theorem test_witness_FlowRequestsAreRefusedInOrder_index :
    flowOf (param2 (payloadOf [0, 5, 1, 0]) 0) = none ∧ flowOf (param2 (payloadOf [0, 0x0A, 1, 0]) 0) = none ∧
    Executes (ask State.reset [0, 5, 1, 0]) 0x05 (payloadOf [0, 5, 1, 0]) [] ∧
    Executes (ask State.reset [0, 6, 1, 0]) 0x06 (payloadOf [0, 6, 1, 0]) [] ∧
    Executes (ask State.reset [0, 7, 1, 0]) 0x07 (payloadOf [0, 7, 1, 0]) [] ∧
    Executes (ask State.reset [0, 8, 1, 0]) 0x08 (payloadOf [0, 8, 1, 0]) [] ∧
    Executes (ask State.reset [0, 9, 1, 0]) 0x09 (payloadOf [0, 9, 1, 0]) [] ∧
    Executes (ask State.reset [0, 0x0A, 1, 0]) 0x0A (payloadOf [0, 0x0A, 1, 0]) [] := by
  refine ⟨by decide, by decide, ?_, ?_, ?_, ?_, ?_, ?_⟩ <;> exact ask_executes _ _ _ (by decide) (by decide) (by decide)

/-- Flow 0 with this lifecycle state and reference count. -/
def counted (l : Lifecycle) (n : Nat) : State :=
  (one { openRecord with lifecycle := l }).withMap { ChannelMap.reset with refCounts := Vector.replicate 256 n }

theorem test_witness_FlowRequestsAreRefusedInOrder_checks :
    flowOf (param2 (payloadOf [0, 5, 0, 0]) 0) = some 0 ∧ contractOf (payloadOf [0, 5, 0, 0, 4]) 2 = none ∧
    (param (payloadOf [0, 8, 0, 0, 2]) 2).toNat = 2 ∧ (param (payloadOf [0, 0x0A, 0, 0, 3]) 2).toNat = 3 ∧
    ((counted .draining 0).flow 0).lifecycle = .draining ∧ (counted .opened 1).refCount 0 = 1 ∧
    (counted .unused 0).refCount 0 = 0 ∧ ((counted .unused 0).flow 0).lifecycle = .unused ∧
    ((counted .opened 0).flow 0).pending = none ∧ (counted .draining 0).probe.state ≠ .armed ∧
    Executes (ask (counted .draining 0) [0, 5, 0, 0]) 0x05 (payloadOf [0, 5, 0, 0]) [] ∧
    Executes (ask (counted .opened 1) [0, 9, 0, 0, 1]) 0x09 (payloadOf [0, 9, 0, 0, 1]) [] ∧
    Executes (ask (counted .draining 0) [0, 0x12, 0, 0, 8]) 0x12 (payloadOf [0, 0x12, 0, 0, 8]) [] ∧
    Executes (ask (counted .opened 0) [0, 5, 0, 0, 4]) 0x05 (payloadOf [0, 5, 0, 0, 4]) [] ∧
    Executes (ask (counted .opened 0) [0, 6, 0, 0]) 0x06 (payloadOf [0, 6, 0, 0]) [] ∧
    Executes (ask (counted .draining 0) [0, 7, 0, 0]) 0x07 (payloadOf [0, 7, 0, 0]) [] ∧
    Executes (ask (counted .opened 0) [0, 8, 0, 0, 2]) 0x08 (payloadOf [0, 8, 0, 0, 2]) [] ∧
    Executes (ask (counted .opened 0) [0, 8, 0, 0, 1]) 0x08 (payloadOf [0, 8, 0, 0, 1]) [] ∧
    Executes (ask (counted .opened 0) [0, 9, 0, 0, 2]) 0x09 (payloadOf [0, 9, 0, 0, 2]) [] ∧
    Executes (ask (counted .draining 0) [0, 9, 0, 0, 0]) 0x09 (payloadOf [0, 9, 0, 0, 0]) [] ∧
    Executes (ask (counted .unused 0) [0, 9, 0, 0, 1]) 0x09 (payloadOf [0, 9, 0, 0, 1]) [] ∧
    Executes (ask (counted .opened 0) [0, 0x0A, 0, 0, 3]) 0x0A (payloadOf [0, 0x0A, 0, 0, 3]) [] := by
  refine ⟨by decide, by decide, by decide, by decide, by decide +kernel, by decide +kernel, by decide +kernel, by decide +kernel,
    by decide +kernel, by decide +kernel, ?_, ?_, ?_, ?_, ?_, ?_, ?_, ?_, ?_, ?_, ?_, ?_⟩ <;> exact ask_executes _ _ _ (by decide) (by decide) (by decide)

theorem test_witness_SuspendAndResumePlaceTheFlow :
    Executes (ask (one openRecord) [0, 7, 0, 0]) 0x07 (payloadOf [0, 7, 0, 0]) [] ∧ ((one openRecord).flow 0).lifecycle = .opened ∧
    Executes (ask (one { openRecord with lifecycle := .suspended, sched := .held, queue := [3] }) [0, 8, 0, 0, 1]) 0x08
      (payloadOf [0, 8, 0, 0, 1]) [] ∧
    ((one { openRecord with lifecycle := .suspended, sched := .held, queue := [3] }).flow 0).StandsRight ∧
    (param (payloadOf [0, 8, 0, 0, 1]) 2).toNat ≤ 1 := by
  refine ⟨ask_executes _ _ _ (by decide) (by decide) (by decide), by decide +kernel,
    ask_executes _ _ _ (by decide) (by decide) (by decide), ?_, by decide⟩
  rw [FlowRecord.StandsRight]
  decide +kernel

theorem test_witness_CloseWithDrain :
    Executes (ask (counted .opened 1) [0, 9, 0, 0, 0]) 0x09 (payloadOf [0, 9, 0, 0, 0]) [] ∧
    flowOf (param2 (payloadOf [0, 9, 0, 0, 0]) 0) = some 0 ∧ param (payloadOf [0, 9, 0, 0, 0]) 2 = 0 ∧
    0 < (counted .opened 1).refCount 0 ∧ (counted .opened 0).refCount 0 = 0 ∧ ((counted .opened 0).flow 0).queue = [] ∧
    (one { openRecord with queue := [3], sched := .ready }).refCount 0 = 0 ∧
    ((one { openRecord with queue := [3], sched := .ready }).flow 0).queue ≠ [] := by
  refine ⟨ask_executes _ _ _ (by decide) (by decide) (by decide), by decide, by decide, by decide +kernel, by decide +kernel,
    by decide +kernel, by decide +kernel, by decide +kernel⟩

theorem test_witness_CloseWithFlush :
    Executes (ask drainingState [0, 9, 0, 0, 1]) 0x09 (payloadOf [0, 9, 0, 0, 1]) [] ∧
    flowOf (param2 (payloadOf [0, 9, 0, 0, 1]) 0) = some 0 ∧ param (payloadOf [0, 9, 0, 0, 1]) 2 = 1 ∧
    drainingState.refCount 0 = 0 ∧ (drainingState.flow 0).lifecycle ≠ .unused := by
  refine ⟨ask_executes _ _ _ (by decide) (by decide) (by decide), by decide, by decide, by decide +kernel, by decide +kernel⟩

theorem test_witness_ReadFlowReturnsTheView :
    Executes (ask State.reset [0, 0x0A, 0, 255, 2]) 0x0A (payloadOf [0, 0x0A, 0, 255, 2]) [] ∧
    flowOf (param2 (payloadOf [0, 0x0A, 0, 255, 2]) 0) = some 255 ∧ param (payloadOf [0, 0x0A, 0, 255, 2]) 2 = 2 ∧
    param (payloadOf [0, 0x0A, 0, 255, 1]) 2 = 1 ∧ param (payloadOf [0, 0x0A, 0, 255]) 2 = 0 ∧
    (State.reset.flow 255).pending = none ∧ ((one (boundaryRecord .pace)).flow 0).pending = some (contract .pace) := by
  refine ⟨ask_executes _ _ _ (by decide) (by decide) (by decide), by decide, by decide, by decide, by decide, by decide +kernel,
    by decide +kernel⟩

theorem test_witness_PrepareMapSetsTheStagingBank :
    Executes (ask State.reset [0, 0x0B, 1]) 0x0B (payloadOf [0, 0x0B, 1]) [] ∧ (param (payloadOf [0, 0x0B, 1]) 0).toNat ≤ 1 ∧
    1 < (param (payloadOf [0, 0x0B, 2]) 0).toNat :=
  ⟨ask_executes _ _ _ (by decide) (by decide) (by decide), by decide, by decide⟩

/-- A WRITE_MAP of 11 entries of port F that ends at channel 1022: NONE, flow 255, and flow 0 nine times. -/
def writeBytes : List Byte :=
  [0, 0x0C, 1, 0x03, 0xF4, 11, 0xFF, 0xFF, 0, 255]

theorem test_witness_WriteMapWritesTheRun :
    Executes (ask State.reset writeBytes) 0x0C (payloadOf writeBytes) [] ∧ portOf (param (payloadOf writeBytes) 0) = some .F ∧
    (param (payloadOf writeBytes) 3).toNat = 11 ∧
    (param2 (payloadOf writeBytes) 1).toNat + (param (payloadOf writeBytes) 3).toNat - 1 = 1022 ∧
    (∀ i : Fin 11, mapValueOf (param2 (payloadOf writeBytes) (4 + 2 * i.val)) ≠ none) ∧
    portOf (param (payloadOf [0, 0x0C, 2]) 0) = none ∧ (param (payloadOf [0, 0x0C, 0, 0, 0, 12]) 3).toNat = 12 ∧
    1022 < (param2 (payloadOf [0, 0x0C, 0, 0x03, 0xFF, 1]) 1).toNat + 1 - 1 ∧
    mapValueOf (param2 (payloadOf [0, 0x0C, 0, 0, 0, 1, 1, 0]) 4) = none := by
  refine ⟨ask_executes _ _ _ (by decide) (by decide) (by decide), ?_⟩
  decide +kernel

theorem test_witness_ReadMapReturnsTheRun :
    Executes (ask State.reset [0, 0x0D, 1, 1, 0x03, 0xF3, 12]) 0x0D (payloadOf [0, 0x0D, 1, 1, 0x03, 0xF3, 12]) [] ∧
    (param (payloadOf [0, 0x0D, 1, 1, 0x03, 0xF3, 12]) 0).toNat = 1 ∧
    portOf (param (payloadOf [0, 0x0D, 1, 1, 0x03, 0xF3, 12]) 1) = some .F ∧
    (param2 (payloadOf [0, 0x0D, 1, 1, 0x03, 0xF3, 12]) 2).toNat + 12 - 1 = 1022 ∧
    (param (payloadOf [0, 0x0D, 1, 1, 0x03, 0xF3, 12]) 4).toNat = 12 ∧ 1 < (param (payloadOf [0, 0x0D, 2]) 0).toNat ∧
    (param (payloadOf [0, 0x0D]) 4).toNat < 1 ∧ 1022 < (param2 (payloadOf [0, 0x0D, 0, 0, 0x03, 0xFF, 1]) 2).toNat + 1 - 1 := by
  refine ⟨ask_executes _ _ _ (by decide) (by decide) (by decide), ?_⟩
  decide +kernel

/-- The Staging entry of port T, channel 0 names flow 0; the flow has record `r`. -/
def staged (r : FlowRecord) : State :=
  (one r).withMap { ChannelMap.reset with bankB := Bank.none.writeRun .T 0 [some 0] }

theorem test_witness_SwapMapChecksThenExchanges :
    Executes (ask (staged openRecord) [0, 0x0E]) 0x0E (payloadOf [0, 0x0E]) [] ∧
    (∀ p c f, State.reset.map.stagingBank.entry p c = some f →
      (State.reset.flow f).lifecycle = .opened ∧ (State.reset.flow f).egressPort = otherPort p) ∧
    (staged FlowRecord.reset).map.stagingBank.entry .T 0 = some 0 ∧ ((staged FlowRecord.reset).flow 0).lifecycle = .unused ∧
    (∀ d : UserChannel, ¬ d < 0) := by
  refine ⟨ask_executes _ _ _ (by decide) (by decide) (by decide), fun p c f h => ?_, by decide +kernel, by decide +kernel,
    fun d => by simp⟩
  cases p <;> simp [State.reset, ChannelMap.reset, ChannelMap.stagingBank, ChannelMap.staging, ChannelMap.bank, otherBank,
    Bank.none, Bank.entry, Bank.entries, Vector.get_eq_getElem] at h

/-- A SET_WATERMARKS with H 1, W1 2, W2 3, W3 1024 and the actions NOTICE_ONLY, SHED_DE and SHED_BELOW 7. -/
def waterBytes : List Byte :=
  [0, 0x0F, 0, 2, 0, 3, 4, 0, 1, 0, 99, 1, 99, 2, 7]

theorem test_witness_SetWatermarksReplacesAndReevaluates :
    Executes (ask State.reset waterBytes) 0x0F (payloadOf waterBytes) [] ∧
    actionOf (param (payloadOf waterBytes) 7) (param (payloadOf waterBytes) 8) = some .noticeOnly ∧
    actionOf (param (payloadOf waterBytes) 9) (param (payloadOf waterBytes) 10) = some .shedDe ∧
    actionOf (param (payloadOf waterBytes) 11) (param (payloadOf waterBytes) 12) = some (.shedBelow 7) ∧
    (param (payloadOf waterBytes) 6).toNat < (param2 (payloadOf waterBytes) 0).toNat ∧
    (param2 (payloadOf waterBytes) 0).toNat < (param2 (payloadOf waterBytes) 2).toNat ∧
    (param2 (payloadOf waterBytes) 2).toNat < (param2 (payloadOf waterBytes) 4).toNat ∧
    (param2 (payloadOf waterBytes) 4).toNat = 1024 ∧ actionOf 3 0 = none ∧ actionOf 2 8 = none := by
  refine ⟨ask_executes _ _ _ (by decide) (by decide) (by decide), ?_⟩
  decide +kernel

theorem test_witness_ReadPoolReturnsAndRestartsThePeak :
    Executes (ask State.reset [0, 0x10]) 0x10 (payloadOf [0, 0x10]) [] :=
  ask_executes _ _ _ (by decide) (by decide) (by decide)

theorem test_witness_WatermarkLevelsRiseAndClear : State.reset.buffer.level1.threshold < State.reset.buffer.level2.threshold ∧
    State.reset.buffer.level2.threshold < State.reset.buffer.level3.threshold := by decide

theorem test_witness_ReadCountersReturnsAndClears :
    Executes (ask State.reset [0, 0x11, 1, 0, 0, 1, 1]) 0x11 (payloadOf [0, 0x11, 1, 0, 0, 1, 1]) [] ∧
    param (payloadOf [0, 0x11, 1, 0, 0, 1, 1]) 0 = 1 ∧ portOf (param (payloadOf [0, 0x11, 1, 0, 0, 1, 1]) 3) = some .F ∧
    (param (payloadOf [0, 0x11, 1, 0, 0, 1, 1]) 4).toNat = 1 ∧ (param (payloadOf [0, 0x11, 0, 0, 255, 0, 2]) 4).toNat = 2 ∧
    param (payloadOf [0, 0x11, 0, 0, 255]) 0 = 0 ∧ flowOf (param2 (payloadOf [0, 0x11, 0, 0, 255]) 1) = some 255 ∧
    flowOf (param2 (payloadOf [0, 0x11, 0, 1, 0]) 1) = none ∧ portOf (param (payloadOf [0, 0x11, 1, 0, 0, 2]) 3) = none ∧
    1 < (param (payloadOf [0, 0x11, 2]) 0).toNat := by
  refine ⟨ask_executes _ _ _ (by decide) (by decide) (by decide), ?_⟩
  decide +kernel

theorem test_witness_StartProbeArmsOrCancels :
    Executes (ask (one openRecord) [0, 0x12, 0, 0, 8]) 0x12 (payloadOf [0, 0x12, 0, 0, 8]) [] ∧
    (param (payloadOf [0, 0x12, 0, 0, 8]) 2).toNat = 8 ∧ (param (payloadOf [0, 0x12, 0, 0, 9]) 2).toNat = 9 ∧
    (param (payloadOf [0, 0x12]) 2).toNat = 0 ∧ (param (payloadOf [0, 0x12, 0, 0, 1]) 2).toNat = 1 ∧
    flowOf (param2 (payloadOf [0, 0x12, 0, 0, 8]) 0) = some 0 ∧ flowOf (param2 (payloadOf [0, 0x12, 1, 0, 8]) 0) = none ∧
    (one openRecord).probe.state ≠ .armed ∧ (armed (one openRecord) 0).probe.state = .armed ∧
    ((one openRecord).flow 0).lifecycle = .opened := by
  refine ⟨ask_executes _ _ _ (by decide) (by decide) (by decide), ?_⟩
  decide +kernel

theorem test_witness_ReadProbeReturnsTheRecord :
    Executes (ask (armed State.reset 8) [0, 0x13]) 0x13 (payloadOf [0, 0x13]) [] ∧ (armed State.reset 8).probe.entries.length ≤ 8 :=
  ⟨ask_executes _ _ _ (by decide) (by decide) (by decide), by decide⟩

theorem test_witness_CreditAndEnableSetAreReplaced :
    Executes (ask State.reset [0, 0x14, 32]) 0x14 (payloadOf [0, 0x14, 32]) [] ∧
    (param (payloadOf [0, 0x14, 32]) 0).toNat = 32 ∧ (param (payloadOf [0, 0x14, 33]) 0).toNat = 33 ∧
    Executes (ask State.reset [0, 0x15, 0x07, 0xFF]) 0x15 (payloadOf [0, 0x15, 0x07, 0xFF]) [] ∧
    (param2 (payloadOf [0, 0x15, 0x07, 0xFF]) 0).toNat = 2047 ∧ 2047 < (param2 (payloadOf [0, 0x15, 0x08, 0]) 0).toNat ∧
    (0 : BitVec 11).getLsbD ((Notice.poolFull).code - 1) = false := by
  refine ⟨ask_executes _ _ _ (by decide) (by decide) (by decide), by decide, by decide,
    ask_executes _ _ _ (by decide) (by decide) (by decide), by decide, by decide, by decide⟩

theorem test_witness_SoftResetResetsTheDatapath :
    Executes (ask State.reset [0, 0x16]) 0x16 (payloadOf [0, 0x16]) [] :=
  ask_executes _ _ _ (by decide) (by decide) (by decide)

/-- `n` queued records of flows, with the LINK_UP of port T first and the enable set `e`. -/
def fullUnit (n : Nat) (e : BitVec 11) : NoticeUnit :=
  { records := { what := .linkUp .T, count := 255, stamp := 0, detail := .none } ::
      (List.range n).map fun i => { what := .queueFull (Fin.ofNat 256 i), count := 1, stamp := 0, detail := .none }
    credit := 0, seq := 0, enabled := e }

theorem test_witness_PostingsMergeAppendOrAreLost :
    (fullUnit 0 0).enabled.getLsbD ((Notice.linkUp .T).code - 1) = false ∧
    ((fullUnit 0 0x7FF).enabled.getLsbD ((Notice.linkUp .T).code - 1) = true ∧
      (∃ x ∈ (fullUnit 0 0x7FF).records, x.what = .linkUp .T) ∧ ∀ x ∈ (fullUnit 0 0x7FF).records, x.count ≤ 255) ∧
    ((¬ ∃ x ∈ (fullUnit 29 0x7FF).records, x.what = .linkUp .F) ∧ (fullUnit 29 0x7FF).records.length = 30) ∧
    ((¬ ∃ x ∈ (fullUnit 30 0x7FB).records, x.what = .linkUp .F) ∧ (fullUnit 30 0x7FB).records.length = 31 ∧
      (fullUnit 30 0x7FB).enabled.getLsbD (Notice.noticesLost.code - 1) = false ∧
      (fullUnit 30 0x7FB).enabled.getLsbD ((Notice.linkUp .F).code - 1) = true) ∧
    ((fullUnit 30 0x7FF).enabled.getLsbD (Notice.noticesLost.code - 1) = true ∧
      ¬ ∃ x ∈ (fullUnit 30 0x7FF).records, x.what = .noticesLost) ∧
    (∃ x ∈ ((fullUnit 30 0x7FF).append .noticesLost 0 .none).records, x.what = .noticesLost) := by
  decide +kernel

/-! ### Laws -/

/-- Flow records, ready lists and calendar slots right after reset. -/
theorem reset_flow (f : FlowNo) : State.reset.flow f = FlowRecord.reset := by
  simp [State.flow, State.reset, Vector.get_eq_getElem]

theorem reset_readyList (p : Port) (q : Priority) : State.reset.readyList p q = [] := by
  cases p <;> simp [State.readyList, State.reset, ReadyLists.reset, ReadyLists.lists, Vector.get_eq_getElem]

theorem reset_calendarSlot (i : Fin 1024) : State.reset.calendarSlot i = [] := by
  simp [State.calendarSlot, State.reset, calendarReset, Vector.get_eq_getElem]

theorem test_witness_SmallLawsAreKept : (∃ t, Sys2Proof.Machine.step State.reset = .next t) ∧ QueuesBounded State.reset ∧
    CacheLaw State.reset ∧ LinkLaw State.reset ∧ TimeLaw State.reset ∧ ProbeLaw State.reset := by
  refine ⟨⟨_, rfl⟩, ⟨by decide, by decide⟩, fun r h => (nomatch h), fun p => ?_, ⟨by decide, by decide, by decide⟩,
    ⟨by decide, by decide, fun h => (nomatch h), fun h => (nomatch h), fun h => (nomatch h)⟩⟩
  cases p <;> exact ⟨⟨fun h => (nomatch h), fun h => (nomatch h.1)⟩, fun _ => rfl⟩

theorem test_witness_NoticeLawIsKept : NoticeLaw State.reset ∧ ∃ t, Sys2Proof.Machine.step State.reset = .next t :=
  ⟨⟨by decide, by decide, by decide, fun _ h => (nomatch h), fun _ h => (nomatch h), by decide⟩, ⟨_, rfl⟩⟩

theorem test_witness_MapLawIsKept : MapLaw State.reset ∧ ∃ t, Sys2Proof.Machine.step State.reset = .next t := by
  refine ⟨⟨fun f => ?_, fun p c f h => ?_⟩, ⟨_, rfl⟩⟩
  · have hz : ((Vector.replicate 1023 Option.none : Vector (Option FlowNo) 1023).toList).count (some f) = 0 :=
      List.count_eq_zero.mpr fun h => by
        rw [Vector.toList_replicate] at h
        exact nomatch List.eq_of_mem_replicate h
    have hn : State.reset.map.activeBank.naming f = 0 := congrArg₂ (· + ·) hz hz
    have hr : State.reset.refCount f = 0 := (Vector.get_eq_getElem _ f).trans (Vector.getElem_replicate _)
    rw [hn, hr]
  · cases p <;> simp [State.reset, ChannelMap.reset, ChannelMap.activeBank, ChannelMap.bank, Bank.none, Bank.entry,
      Bank.entries, Vector.get_eq_getElem] at h

theorem test_witness_ContractLawIsKept : ContractLaw State.reset ∧ ∃ t, Sys2Proof.Machine.step State.reset = .next t := by
  refine ⟨fun f => ?_, ⟨_, rfl⟩⟩
  rw [reset_flow]
  exact ⟨by decide, fun _ h => (nomatch h), by decide, fun h => (nomatch h), fun _ => rfl⟩

theorem test_witness_PoolLawIsKept : PoolLaw State.reset ∧ ∃ t, Sys2Proof.Machine.step State.reset = .next t := by
  refine ⟨⟨?_, fun f => ?_, fun f _ => ?_, by decide +kernel⟩, ⟨_, rfl⟩⟩
  · have hz : State.reset.flows.toList.flatMap FlowRecord.queue = [] :=
      List.flatMap_eq_nil_iff.mpr fun r h => by
        have h' : r ∈ (Vector.replicate 256 FlowRecord.reset).toList := h
        rw [Vector.toList_replicate] at h'
        rw [List.eq_of_mem_replicate h']
        rfl
    have hf : State.reset.buffer.freeList = List.finRange 1024 := by simp only [State.reset, CellBuffer.reset]
    exact List.Perm.of_eq ((congrArg (State.reset.buffer.freeList ++ ·) hz).trans ((List.append_nil _).trans hf))
  · rw [reset_flow]
    decide
  · rw [reset_flow]
    rfl

theorem test_witness_WatermarkLawIsKept : WatermarkLaw State.reset ∧ ∃ t, Sys2Proof.Machine.step State.reset = .next t := by
  refine ⟨⟨by decide, by decide, by decide, by decide, fun l => ⟨fun _ => ?_, fun h => ?_⟩, fun h => (nomatch h),
    fun h => (nomatch h)⟩, ⟨_, rfl⟩⟩
  · cases l <;> decide +kernel
  · cases l <;> exact nomatch h

theorem test_witness_SchedulingLawIsKept : SchedulingLaw State.reset ∧ ∃ t, Sys2Proof.Machine.step State.reset = .next t := by
  refine ⟨⟨fun f _ => ?_, fun f => ?_, fun f => ?_, fun f p q => ?_, fun f i => ?_, fun f h => ?_, fun f h => ?_, fun f h => ?_⟩,
    ⟨_, rfl⟩⟩
  · rw [reset_flow]; rfl
  · rw [reset_flow]; simp [FlowRecord.reset]
  · rw [reset_flow]; simp [FlowRecord.reset]
  · rw [reset_flow, reset_readyList]; simp [FlowRecord.reset]
  · rw [reset_flow, reset_calendarSlot]; simp [FlowRecord.reset]
  · rw [reset_flow] at h; exact nomatch h
  · rw [reset_flow] at h; exact nomatch h
  · rw [reset_flow] at h; exact absurd rfl h

/-- Flow 0 READY under PACE with its due time now, at the head of the ready list of port F. -/
def pacedState : State :=
  listed (up (one { openRecord with active := contract .pace, queue := [3], sched := .ready }))

theorem pacedState_flow (f : FlowNo) : pacedState.flow f
    = if f = 0 then { openRecord with active := contract .pace, queue := [3], sched := .ready } else FlowRecord.reset :=
  one_flow _ f

theorem pacedState_readyList (p : Port) (q : Priority) : pacedState.readyList p q = if p = .F ∧ q = 0 then [0] else [] := by
  rw [pacedState, listed, State.readyList_setReadyList]
  split_ifs
  · rfl
  · exact reset_readyList p q

theorem test_witness_NoPaceDepartureIsEarly : SchedulingLaw pacedState ∧ pacedState.departing .F = some 0 ∧
    (pacedState.flow 0).active.mode = .pace := by
  refine ⟨⟨fun f => ?_, fun f => ?_, fun f => ?_, fun f p q => ?_, fun f i => ?_, fun f => ?_, fun f => ?_, fun f => ?_⟩,
    by decide +kernel, by decide +kernel⟩
  · rw [pacedState_flow]
    split_ifs <;> simp [FlowRecord.reset, openRecord]
  · rw [pacedState_flow]
    split_ifs <;> simp [FlowRecord.reset]
  · rw [pacedState_flow]
    split_ifs <;> simp [FlowRecord.reset, openRecord]
  · rw [pacedState_flow, pacedState_readyList]
    by_cases hf : f = 0
    · subst hf
      by_cases hp : p = .F <;> by_cases hq : q = 0 <;> simp [hp, hq, openRecord, FlowRecord.reset, eq_comm]
    · split_ifs <;> simp_all [FlowRecord.reset, eq_comm]
  · rw [pacedState_flow, show pacedState.calendarSlot i = [] from reset_calendarSlot i]
    split_ifs <;> simp_all [FlowRecord.reset]
  · rw [pacedState_flow]
    split_ifs <;> simp [FlowRecord.reset]
  · rw [pacedState_flow]
    split_ifs
    · intro _ _
      decide +kernel
    · simp [FlowRecord.reset]
  · rw [State.dueInWindow, pacedState_flow]
    split_ifs
    · intro _
      exact .inl (by decide +kernel)
    · simp [FlowRecord.reset]

end Sys2Proof.Tests
end

namespace Sys2Proof.Machine

/-! ## What a step can do to the flows and to the structures that hold them -/

/-- `t` has the flow records, the ready lists, the calendar, Pace Time and the sweep pointer of `s`: everything the laws of
contracts and of scheduling speak of. -/
structure SameFlows (s t : State) : Prop where
  flows : t.flows = s.flows
  ready : t.ready = s.ready
  calendar : t.calendar = s.calendar
  now : t.time.now = s.time.now
  sweep : t.time.sweep = s.time.sweep

theorem SameFlows.refl (s : State) : SameFlows s s := ⟨rfl, rfl, rfl, rfl, rfl⟩

theorem SameFlows.trans {s t u : State} (h : SameFlows s t) (k : SameFlows t u) : SameFlows s u :=
  ⟨k.flows.trans h.flows, k.ready.trans h.ready, k.calendar.trans h.calendar, k.now.trans h.now, k.sweep.trans h.sweep⟩

theorem SameFlows.flow {s t : State} (h : SameFlows s t) (f : FlowNo) : t.flow f = s.flow f :=
  State.flow_congr h.flows f

theorem sameFlows_conclude (s : State) (r : Payload) (x : Response) : SameFlows s (s.conclude r x) := ⟨rfl, rfl, rfl, rfl, rfl⟩

theorem sameFlows_countPort (s : State) (p : Port) (g : PortCounters → PortCounters) : SameFlows s (s.countPort p g) := by
  constructor <;> simp

theorem sameFlows_setPortCounters (s : State) (p : Port) (c : PortCounters) : SameFlows s (s.setPortCounters p c) := by
  constructor <;> simp

theorem sameFlows_offerRequest (s : State) (r : Payload) : SameFlows s (s.offerRequest r) := by
  constructor <;> simp

theorem sameFlows_capture (s : State) (f : FlowNo) (v : Verdict) (o : Admission) : SameFlows s (s.capture f v o) := by
  constructor <;> simp

theorem sameFlows_transmit (s : State) (p : Port) (c : Cell) : SameFlows s (s.transmit p c) := by
  constructor <;> simp

theorem sameFlows_sendResponse (s : State) (r : Response) (rest : List Response) : SameFlows s (s.sendResponse r rest) := by
  constructor <;> simp

theorem sameFlows_sendNotice (s : State) (r : NoticeRecord) : SameFlows s (s.sendNotice r) := by
  constructor <;> simp

theorem sameFlows_assertLineOk (s : State) (p : Port) : SameFlows s (s.assertLineOk p) := by
  constructor <;> simp

theorem sameFlows_deassertLineOk (s : State) (p : Port) : SameFlows s (s.deassertLineOk p) := by
  constructor <;> simp

theorem sameFlows_follow (s : State) (p : Port) : SameFlows s (s.follow p) := by
  unfold State.follow
  split_ifs
  · constructor <;> simp
  · exact .refl s

theorem sameFlows_releaseReset (s : State) (first : Port) : SameFlows s (s.releaseReset first) := by
  unfold State.releaseReset
  split_ifs
  · have h : SameFlows s { s with resetHeld := false } := ⟨rfl, rfl, rfl, rfl, rfl⟩
    exact (h.trans (sameFlows_follow _ first)).trans (sameFlows_follow _ (otherPort first))
  · exact .refl s

theorem sameFlows_reviseLevels (s : State) : SameFlows s s.reviseLevels := by
  constructor <;> simp

theorem sameFlows_cancelProbe (s : State) : SameFlows s s.cancelProbe := by
  constructor <;> simp

/-- Every flow is as after a reset and no ready list or calendar slot holds one (R24, R87, R92). -/
structure FlowsReset (s : State) : Prop where
  flows : s.flows = Vector.replicate 256 FlowRecord.reset
  ready : s.ready = ReadyLists.reset
  calendar : s.calendar = calendarReset

/-- A property of the flows and of the structures that hold them that each effect of a command on them keeps. An arrival is
only asked to keep it for a flow that satisfies `mapped`, which is to hold of every flow that the Active bank names. -/
structure KeptByEffects (mapped : FlowRecord → Prop) (I : State → Prop) : Prop where
  same : ∀ {s t}, I s → SameFlows s t → I t
  reset : ∀ {s}, FlowsReset s → I s
  tick : ∀ {s}, I s → I s.tick
  arrives : ∀ {s f c}, I s → mapped (s.flow f) → I (s.admitCell f c)
  depart : ∀ {s p q f l}, I s → s.readyList p q = f :: l → I (s.depart p q f)
  openFlow : ∀ {s f p ch q lim c}, I s → (s.flow f).lifecycle = .unused → c.legal = true →
    I (s.setFlow f ((s.flow f).openWith s.now p ch q lim c))
  setContract : ∀ {s f c}, I s → (s.flow f).lifecycle.live = true → c.legal = true → I (s.setContract f c).state
  commit : ∀ {s f}, I s → (s.flow f).lifecycle.live = true → I (s.promoteNow f)
  suspend : ∀ {s f}, I s → (s.flow f).lifecycle = .opened → I (s.suspend f)
  resumeKeep : ∀ {s f}, I s → (s.flow f).lifecycle = .suspended → I (s.resumeKeep f)
  resumeRestart : ∀ {s f}, I s → (s.flow f).lifecycle = .suspended → I (s.resumeRestart f)
  startDrain : ∀ {s f}, I s → (s.flow f).lifecycle = .opened → (s.flow f).queue ≠ [] → I (s.startDrain f)
  closeEmpty : ∀ {s f}, I s → (s.flow f).lifecycle = .opened → (s.flow f).queue = [] → I (s.closeEmpty f)
  flush : ∀ {s f}, I s → I (s.flush f)

/-! ### The checks of a request -/

theorem checked_keeps {α : Type} {I : State → Prop} {o : Option α} {st : Status} {s : State} {k : α → Reply} (hs : I s)
    (hk : ∀ a, o = some a → I (k a).state) : I (checked o st s k).state := by
  cases o with
  | none => exact hs
  | some a => exact hk a rfl

theorem require_keeps {I : State → Prop} {c : Bool} {st : Status} {s : State} {k : Reply} (hs : I s)
    (hk : c = true → I k.state) : I (require c st s k).state := by
  cases c with
  | false => exact hs
  | true => exact hk rfl

theorem withFlow_keeps {I : State → Prop} {r : Payload} {n : Nat} {s : State} {k : FlowNo → Reply} (hs : I s)
    (hk : ∀ f, I (k f).state) : I (withFlow r n s k).state :=
  checked_keeps hs fun f _ => hk f

/-- A contract read from a request has passed the validation of R2. -/
theorem contractOf_legal {r : Payload} {n : Nat} {c : Contract} (h : contractOf r n = some c) : c.legal = true := by
  unfold contractOf at h
  split at h
  · exact nomatch h
  · dsimp only at h
    split_ifs at h with hl
    exact Option.some.inj h ▸ hl

section
variable {mapped : FlowRecord → Prop} {I : State → Prop} (k : KeptByEffects mapped I)
include k

/-! ### The requests -/

theorem KeptByEffects.runOpenFlow (r : Payload) {s : State} (h : I s) : I (runOpenFlow r s).state := by
  refine withFlow_keeps h fun f => checked_keeps h fun ch _ => checked_keeps h fun p _ => checked_keeps h fun q _ =>
    checked_keeps h fun lim _ => checked_keeps h fun c hc => require_keeps h fun hu => ?_
  have ho := k.openFlow (p := p) (ch := ch) (q := q) (lim := lim) h (of_decide_eq_true hu) (contractOf_legal hc)
  exact k.same ho ⟨rfl, rfl, rfl, rfl, rfl⟩

theorem KeptByEffects.runSetContract (r : Payload) {s : State} (h : I s) : I (runSetContract r s).state :=
  withFlow_keeps h fun _ => require_keeps h fun hl => checked_keeps h fun _ hc => k.setContract h hl (contractOf_legal hc)

theorem KeptByEffects.runCommitContract (r : Payload) {s : State} (h : I s) : I (runCommitContract r s).state :=
  withFlow_keeps h fun _ => require_keeps h fun hl => require_keeps h fun _ => k.commit h hl

theorem KeptByEffects.runSuspendFlow (r : Payload) {s : State} (h : I s) : I (runSuspendFlow r s).state :=
  withFlow_keeps h fun _ => require_keeps h fun ho => k.suspend h (of_decide_eq_true ho)

theorem KeptByEffects.runResumeFlow (r : Payload) {s : State} (h : I s) : I (runResumeFlow r s).state := by
  refine withFlow_keeps h fun f => checked_keeps h fun restart _ => require_keeps h fun hs => ?_
  cases restart with
  | false => exact k.resumeKeep h (of_decide_eq_true hs)
  | true => exact k.resumeRestart h (of_decide_eq_true hs)

theorem KeptByEffects.closeDrain (f : FlowNo) {s : State} (h : I s) : I (s.closeDrain f).state := by
  unfold State.closeDrain
  cases hl : (s.flow f).lifecycle with
  | opened =>
    dsimp only
    split_ifs with hq
    · exact k.closeEmpty h hl hq
    · exact k.startDrain h hl hq
  | unused => exact h
  | suspended => exact h
  | draining => exact h

theorem KeptByEffects.closeFlush (f : FlowNo) {s : State} (h : I s) : I (s.closeFlush f).state := by
  unfold State.closeFlush
  cases (s.flow f).lifecycle with
  | unused => exact h
  | opened => exact k.flush h
  | suspended => exact k.flush h
  | draining => exact k.flush h

theorem KeptByEffects.runCloseFlow (r : Payload) {s : State} (h : I s) : I (runCloseFlow r s).state := by
  refine withFlow_keeps h fun f => checked_keeps h fun flush _ => require_keeps h fun _ => ?_
  cases flush with
  | false => exact k.closeDrain f h
  | true => exact k.closeFlush f h

theorem KeptByEffects.runSwapMap (r : Payload) {s : State} (h : I s) : I (runSwapMap r s).state := by
  unfold Machine.runSwapMap
  split
  · exact h
  · exact k.same h ⟨rfl, rfl, rfl, rfl, rfl⟩

theorem KeptByEffects.runSetWatermarks (r : Payload) {s : State} (h : I s) : I (runSetWatermarks r s).state := by
  refine checked_keeps h fun w _ => require_keeps h fun _ => ?_
  have hw : I (s.withBuffer (s.buffer.withSettings w)) := k.same h ⟨rfl, rfl, rfl, rfl, rfl⟩
  exact k.same hw (sameFlows_reviseLevels _)

theorem KeptByEffects.runReadCounters (r : Payload) {s : State} (h : I s) : I (runReadCounters r s).state := by
  refine checked_keeps h fun port _ => ?_
  cases port with
  | true =>
    refine checked_keeps h fun p _ => checked_keeps h fun clear _ => ?_
    cases clear with
    | true => exact k.same h (sameFlows_setPortCounters s p _)
    | false => exact h
  | false =>
    refine withFlow_keeps h fun f => checked_keeps h fun clear _ => ?_
    cases clear with
    | true => exact k.same h ⟨rfl, rfl, rfl, rfl, rfl⟩
    | false => exact h

theorem KeptByEffects.runStartProbe (r : Payload) {s : State} (h : I s) : I (runStartProbe r s).state := by
  refine checked_keeps h fun n _ => ?_
  split_ifs
  · exact k.same h (sameFlows_cancelProbe s)
  · exact withFlow_keeps h fun f => require_keeps h fun _ => require_keeps h fun _ => k.same h ⟨rfl, rfl, rfl, rfl, rfl⟩

/-- A request's taking keeps the property when its execution does. -/
theorem KeptByEffects.take {mine : Byte → Bool} {run : Payload → State → Reply} {s : State} (h : I s)
    (hrun : ∀ r u, I u → I (run r u).state) : I (s.take mine run) := by
  rcases take_cases s mine run with e | ⟨r, rest, -, -, -, ⟨-, e⟩ | ⟨x, -, e⟩⟩ <;> rw [e]
  · exact h
  · have hd : I (s.dequeue rest) := k.same h ⟨rfl, rfl, rfl, rfl, rfl⟩
    exact k.same (hrun r _ hd) (sameFlows_conclude _ _ _)
  · exact k.same h ⟨rfl, rfl, rfl, rfl, rfl⟩

/-! ### Arrivals and slots -/

theorem KeptByEffects.receive {s : State} (p : Port) (c : Cell) (h : I s)
    (hm : ∀ ch f, s.lookup p ch = some f → mapped (s.flow f)) : I (s.receive p c) := by
  have hc : ∀ g, I (s.countPort p g) := fun g => k.same h (sameFlows_countPort s p g)
  unfold State.receive
  split_ifs
  · dsimp only
    cases classify p c with
    | idle => exact h
    | misdirected => exact k.same (hc _) (sameFlows_countPort _ _ _)
    | request => exact k.same (hc _) (sameFlows_offerRequest _ _)
    | user ch de =>
      dsimp only
      cases hl : s.lookup p ch with
      | none => exact k.same (hc _) (sameFlows_countPort _ _ _)
      | some f =>
        have hf := (sameFlows_countPort s p PortCounters.addReceived).flow f
        exact k.same (k.arrives (hc _) (hf ▸ hm ch f hl)) (sameFlows_capture _ _ _ _)
  · exact k.same (hc _) ⟨rfl, rfl, rfl, rfl, rfl⟩

theorem KeptByEffects.arrive {s : State} (p : Port) (cell : List Byte) (h : I s)
    (hm : ∀ p ch f, s.map.activeBank.entry p ch = some f → mapped (s.flow f)) : I (s.arrive p cell) := by
  unfold State.arrive
  split_ifs
  · exact k.receive p _ h (hm p)
  · exact h
end

/-- The head flow that the arbiter finds is the head of its ready list. -/
theorem State.readyHead_eq_some {s : State} {p : Port} {q : Priority} {f : FlowNo} (h : s.readyHead p = some (q, f)) :
    ∃ l, s.readyList p q = f :: l := by
  obtain ⟨q', -, hq⟩ := List.exists_of_findSome?_eq_some h
  obtain ⟨g, hg, e⟩ := Option.map_eq_some_iff.mp hq
  obtain ⟨rfl, rfl⟩ := Prod.mk.inj e
  exact List.head?_eq_some_iff.mp hg

theorem State.flowChoice_departure {s : State} {p : Port} {q : Priority} {f : FlowNo} (h : s.flowChoice p = .departure q f) :
    ∃ l, s.readyList p q = f :: l := by
  unfold State.flowChoice at h
  split at h
  next q' g hr =>
    obtain ⟨rfl, rfl⟩ := SlotChoice.departure.inj h
    exact State.readyHead_eq_some hr
  next => exact nomatch h

theorem State.noticeChoice_departure {s : State} {q : Priority} {f : FlowNo} (h : s.noticeChoice = .departure q f) :
    s.flowChoice .T = .departure q f := by
  unfold State.noticeChoice at h
  split at h
  next =>
    split_ifs at h
    exact h
  next => exact h

/-- A slot departs only the head flow of a ready list (R93, R97). -/
theorem State.slotChoice_departure {s : State} {p : Port} {q : Priority} {f : FlowNo} (h : s.slotChoice p = .departure q f) :
    ∃ l, s.readyList p q = f :: l := by
  cases p with
  | F => exact State.flowChoice_departure h
  | T =>
    unfold State.slotChoice at h
    dsimp only at h
    split at h
    next => exact nomatch h
    next => exact State.flowChoice_departure (State.noticeChoice_departure h)

section
variable {mapped : FlowRecord → Prop} {I : State → Prop} (k : KeptByEffects mapped I)
include k

theorem KeptByEffects.egress {s : State} (p : Port) (h : I s) : I (s.egress p) := by
  unfold State.egress State.openSlot
  split_ifs
  · cases hc : s.slotChoice p with
    | response r rest => exact k.same h (sameFlows_sendResponse _ _ _)
    | notice r => exact k.same h (sameFlows_sendNotice _ _)
    | departure q f =>
      obtain ⟨l, hl⟩ := State.slotChoice_departure hc
      exact k.depart h hl
    | idle => exact k.same h (sameFlows_transmit _ _ _)
  · exact h

theorem KeptByEffects.clockPeriod {s : State} (h : I s) : I s.clockPeriod := by
  unfold State.clockPeriod
  split_ifs
  · exact h
  · exact k.tick h
  · exact k.same h ⟨rfl, rfl, rfl, rfl, rfl⟩

/-! ### Every command, and every step -/

theorem KeptByEffects.exec {s t : State} {i : Instr} (h : I s)
    (hm : ∀ p ch f, s.map.activeBank.entry p ch = some f → mapped (s.flow f)) (e : exec i s = .next t) : I t := by
  have next : ∀ {u : State}, I u → (.next u : Host.Outcome State Fault Refusal) = .next t → I t := by
    rintro u hu ⟨⟩
    exact hu
  cases i with
  | arrival p cell => exact next (k.arrive p cell h hm) e
  | probeCompletion p cell => exact next (iteInduction (motive := I) (fun _ => k.arrive p cell h hm) fun _ => h) e
  | cycleBoundaryPromotion ev =>
    cases ev with
    | arrival p cell => exact next (iteInduction (motive := I) (fun _ => k.arrive p cell h hm) fun _ => h) e
    | slot p => exact next (iteInduction (motive := I) (fun _ => k.egress p h) fun _ => h) e
  | tick => exact next (k.tick h) e
  | calendarService => exact next (iteInduction (motive := I) (fun _ => k.tick h) fun _ => h) e
  | egressSlot p => exact next (k.egress p h) e
  | drainCompletion p => exact next (iteInduction (motive := I) (fun _ => k.egress p h) fun _ => h) e
  | lineOkAssertion p => exact next (k.same h (sameFlows_assertLineOk s p)) e
  | lineOkDeassertion p => exact next (k.same h (sameFlows_deassertLineOk s p)) e
  | resetAssertion => exact next (k.reset ⟨rfl, rfl, rfl⟩) e
  | resetRelease first => exact next (k.same h (sameFlows_releaseReset s first)) e
  | sync => exact next (k.take h fun _ _ hu => hu) e
  | readTime => exact next (k.take h fun _ _ hu => hu) e
  | setTimebase =>
    exact next (k.take h fun _ _ hu => checked_keeps hu fun _ _ => require_keeps hu fun _ =>
      k.same hu ⟨rfl, rfl, rfl, rfl, rfl⟩) e
  | openFlow => exact next (k.take h fun r _ hu => k.runOpenFlow r hu) e
  | setContract => exact next (k.take h fun r _ hu => k.runSetContract r hu) e
  | commitContract => exact next (k.take h fun r _ hu => k.runCommitContract r hu) e
  | suspendFlow => exact next (k.take h fun r _ hu => k.runSuspendFlow r hu) e
  | resumeFlow => exact next (k.take h fun r _ hu => k.runResumeFlow r hu) e
  | closeFlow => exact next (k.take h fun r _ hu => k.runCloseFlow r hu) e
  | readFlow => exact next (k.take h fun _ _ hu => withFlow_keeps hu fun _ => checked_keeps hu fun _ _ => hu) e
  | prepareMap => exact next (k.take h fun _ _ hu => checked_keeps hu fun _ _ => k.same hu ⟨rfl, rfl, rfl, rfl, rfl⟩) e
  | writeMap =>
    exact next (k.take h fun _ _ hu => checked_keeps hu fun _ _ => checked_keeps hu fun _ _ => checked_keeps hu fun _ _ =>
      require_keeps hu fun _ => checked_keeps hu fun _ _ => k.same hu ⟨rfl, rfl, rfl, rfl, rfl⟩) e
  | readMap =>
    exact next (k.take h fun _ _ hu => checked_keeps hu fun _ _ => checked_keeps hu fun _ _ => checked_keeps hu fun _ _ =>
      checked_keeps hu fun _ _ => require_keeps hu fun _ => hu) e
  | swapMap => exact next (k.take h fun r _ hu => k.runSwapMap r hu) e
  | setWatermarks => exact next (k.take h fun r _ hu => k.runSetWatermarks r hu) e
  | readPool => exact next (k.take h fun _ _ hu => k.same hu ⟨rfl, rfl, rfl, rfl, rfl⟩) e
  | readCounters => exact next (k.take h fun r _ hu => k.runReadCounters r hu) e
  | startProbe => exact next (k.take h fun r _ hu => k.runStartProbe r hu) e
  | readProbe => exact next (k.take h fun _ _ hu => hu) e
  | grantNotices => exact next (k.take h fun _ _ hu => checked_keeps hu fun _ _ => k.same hu ⟨rfl, rfl, rfl, rfl, rfl⟩) e
  | setNoticeEnable => exact next (k.take h fun _ _ hu => checked_keeps hu fun _ _ => k.same hu ⟨rfl, rfl, rfl, rfl, rfl⟩) e
  | softReset => exact next (k.take h fun _ _ _ => k.reset ⟨rfl, rfl, rfl⟩) e
  | unknownRequest => exact next (k.take h fun _ _ hu => hu) e

/-- A property that each effect keeps is kept by every step, when the flows that the Active bank names satisfy `mapped`. -/
theorem KeptByEffects.step {s t : State} (h : I s)
    (hm : ∀ p ch f, s.map.activeBank.entry p ch = some f → mapped (s.flow f)) (e : step s = .next t) : I t := by
  unfold Machine.step at e
  split at e
  next =>
    cases e
    exact k.clockPeriod h
  next c rest _ => exact k.exec (s := { s with pending := rest }) (k.same h ⟨rfl, rfl, rfl, rfl, rfl⟩) hm e
end

end Sys2Proof.Machine

namespace Sys2Proof.Machine

/-! ## What each effect leaves in the flow records -/

/-- A flow's record in a state whose flow table is another one's with one record written. -/
theorem State.flow_of_flows_set {s t : State} {f : FlowNo} {r : FlowRecord} (h : t.flows = s.flows.set f.val r f.isLt)
    (g : FlowNo) : t.flow g = if g = f then r else s.flow g :=
  (State.flow_congr (t := s.setFlow f r) h g).trans (s.flow_setFlow f g r)

theorem SameFlows.setFlow {s t : State} (h : SameFlows s t) (f : FlowNo) (r : FlowRecord) :
    SameFlows (s.setFlow f r) (t.setFlow f r) :=
  ⟨by simp [h.flows], h.ready, h.calendar, h.now, h.sweep⟩

theorem State.setFlow_setFlow (s : State) (f : FlowNo) (r r' : FlowRecord) : (s.setFlow f r).setFlow f r' = s.setFlow f r' := by
  simp [State.setFlow, State.withFlows]

theorem State.unschedule_flow (s : State) (f g : FlowNo) : (s.unschedule f).flow g = s.flow g :=
  State.flow_congr (by simp) g

theorem State.place_flow (s : State) (f g : FlowNo) :
    (s.place f).flow g = if g = f then (s.flow f).filed s.now else s.flow g :=
  State.flow_of_flows_set (s.place_does f).1 g

/-- The scheduling state and X that a flow is left with when it has to wait. -/
theorem FlowRecord.filed_of_mustWait {r : FlowRecord} {now : Stamp} (hq : r.queue ≠ []) (hl : r.lifecycle ≠ .suspended)
    (hw : r.mustWait now = true) : r.filed now = { r with sched := .waiting, eligible := r.eligibleTime } := by
  have h := (r.mustWait_iff now).mp hw
  simp [FlowRecord.filed, FlowRecord.becomes, hq, hl, h, FlowRecord.eligibleTime]

/-- The scheduling state that a flow with cells to send is left with when it has not to wait. -/
theorem FlowRecord.filed_of_not_mustWait {r : FlowRecord} {now : Stamp} (hq : r.queue ≠ []) (hl : r.lifecycle ≠ .suspended)
    (hw : r.mustWait now ≠ true) : r.filed now = { r with sched := .ready } := by
  have h := fun k => hw ((r.mustWait_iff now).mpr k)
  simp [FlowRecord.filed, FlowRecord.becomes, hq, hl, if_neg h]

/-- The record that the rescheduling of R17 leaves, whatever the state it starts from. -/
theorem State.reschedule_flows (s : State) (f : FlowNo) :
    (s.reschedule f).flows = s.flows.set f.val ((s.flow f).filed s.now) f.isLt := by
  have hu : (s.unschedule f).flow f = s.flow f := s.unschedule_flow f f
  unfold State.reschedule
  dsimp only
  split_ifs with hq hl hw hk hr
  · simp [State.setSched, FlowRecord.filed, FlowRecord.becomes, hq]
  · simp [State.setSched, FlowRecord.filed, FlowRecord.becomes, hq, hl]
  · have e : (s.flow f).filed s.now = s.flow f := by
      rw [FlowRecord.filed_of_mustWait hq hl hw, ← hk.1, ← hk.2]
    rw [e, State.flows_set_flow]
  · rw [FlowRecord.filed_of_mustWait hq hl hw]
    simp [State.makeWaiting, hu]
  · have e : (s.flow f).filed s.now = s.flow f := by
      rw [FlowRecord.filed_of_not_mustWait hq hl hw, ← hr]
    rw [e, State.flows_set_flow]
  · rw [FlowRecord.filed_of_not_mustWait hq hl hw]
    simp [State.makeReady, hu]

theorem State.reschedule_flow (s : State) (f g : FlowNo) :
    (s.reschedule f).flow g = if g = f then (s.flow f).filed s.now else s.flow g :=
  State.flow_of_flows_set (s.reschedule_flows f) g

theorem State.makeReady_flow (s : State) (f g : FlowNo) :
    (s.makeReady f).flow g = if g = f then { s.flow f with sched := .ready } else s.flow g := by
  refine State.flow_of_flows_set ?_ g
  simp [State.makeReady]

/-- A run of flows that become READY. -/
theorem State.foldl_makeReady_flow (l : List FlowNo) (g : FlowNo) : ∀ s : State,
    (l.foldl State.makeReady s).flow g = if g ∈ l then { s.flow g with sched := .ready } else s.flow g := by
  induction l with
  | nil => simp
  | cons f l ih =>
    intro s
    rw [List.foldl_cons, ih, State.makeReady_flow]
    by_cases hg : g = f
    · subst hg
      simp
    · simp [hg]

/-- The flows that the calendar service of Pace Time `s.now` makes READY (R90). -/
def State.dueFlows (s : State) : List FlowNo :=
  (s.calendarSlot (slotIndex s.now)).filter s.isDue

/-- The record of flow `g` after a calendar service. -/
theorem State.serviceCalendar_flow (s : State) (g : FlowNo) :
    s.serviceCalendar.flow g = if g ∈ s.dueFlows then { s.flow g with sched := .ready } else s.flow g :=
  State.foldl_makeReady_flow s.dueFlows g _

/-- The record after the visit of the Refresh Sweep at Pace Time `now` (R49). -/
def FlowRecord.swept (r : FlowRecord) (now : Stamp) : FlowRecord :=
  if r.lifecycle ≠ .unused && r.stale now then { r with due := now } else r

theorem State.sweepVisit_flow (s : State) (f g : FlowNo) :
    (s.sweepVisit f).flow g = if g = f then (s.flow f).swept s.now else s.flow g := by
  unfold State.sweepVisit FlowRecord.swept
  dsimp only
  split_ifs with hs hg hg
  · rw [hg, State.flow_setFlow_self]
  · exact State.flow_setFlow_other _ _ _ _ hg
  · rw [hg]
  · rfl

/-- A due-time update writes the updated record and posts at most a notice. -/
theorem sameFlows_dueUpdate (s : State) (f : FlowNo) (t : Stamp) :
    SameFlows (s.setFlow f ((s.flow f).updated t)) (s.dueUpdate f t) := by
  unfold State.dueUpdate FlowRecord.updated
  dsimp only
  split_ifs <;> exact ⟨rfl, rfl, rfl, rfl, rfl⟩

theorem sameFlows_abortProbe (s : State) (f : FlowNo) : SameFlows s (s.abortProbe f) := by
  constructor <;> simp

theorem sameFlows_startDrain (s : State) (f : FlowNo) :
    SameFlows (s.setFlow f { s.flow f with lifecycle := .draining, pending := none }) (s.startDrain f) :=
  sameFlows_abortProbe _ f

theorem sameFlows_closeEmpty (s : State) (f : FlowNo) :
    SameFlows (s.setFlow f { s.flow f with lifecycle := .unused, pending := none }) (s.closeEmpty f) :=
  sameFlows_abortProbe _ f

theorem sameFlows_finishDrain (s : State) (f : FlowNo) :
    SameFlows (s.setFlow f { s.flow f with sched := .empty, lifecycle := .unused }) (s.finishDrain f) :=
  ⟨rfl, rfl, rfl, rfl, rfl⟩

theorem sameFlows_returnSlots (s : State) (l : List SlotNo) : SameFlows s (s.returnSlots l) := by
  constructor <;> simp

/-- The record that a flush leaves (R36). -/
def FlowRecord.flushed (r : FlowRecord) : FlowRecord :=
  { r with queue := [], sched := .empty, lifecycle := .unused, pending := none }

/-- A flush takes the flow out of the structure that held it and leaves an UNUSED record without cells. -/
theorem sameFlows_flush (s : State) (f : FlowNo) :
    SameFlows ((s.unschedule f).setFlow f (s.flow f).flushed) (s.flush f) := by
  let u := ((s.unschedule f).returnSlots (s.flow f).queue).countFlow f (FlowCounters.addFlushed (s.flow f).queue.length)
  have hu : SameFlows (s.unschedule f) u :=
    (sameFlows_returnSlots _ _).trans (t := (s.unschedule f).returnSlots (s.flow f).queue) ⟨rfl, rfl, rfl, rfl, rfl⟩
  have h := (hu.setFlow f (s.flow f).flushed).trans (sameFlows_abortProbe _ f)
  unfold State.flush
  dsimp only
  split_ifs
  · exact h.trans ⟨rfl, rfl, rfl, rfl, rfl⟩
  · exact h

/-- The settling of an enqueue to a flow whose record was `r`: the due-time update of a CONFORMING cell, then a placement where the
queue was empty, and a rescheduling where a contract was promoted (R76, R77). -/
theorem State.settle_eq (v : State) (f : FlowNo) (r : FlowRecord) : ∃ u,
    SameFlows (v.setFlow f (if r.judge v.now = .conforming then (v.flow f).updated v.now else v.flow f)) u ∧
    v.settle f r = if r.queue = [] then u.place f
      else if r.judge v.now = .conforming ∧ r.atBoundary = true then u.reschedule f else u := by
  by_cases hc : r.judge v.now = .conforming
  · exact ⟨v.dueUpdate f v.now, by simpa [hc] using sameFlows_dueUpdate v f v.now, by simp [State.settle, hc]⟩
  · exact ⟨v, by rw [if_neg hc]; exact ⟨(v.flows_set_flow f).symm, rfl, rfl, rfl, rfl⟩, by simp [State.settle, hc]⟩

/-- An enqueue that finds a free slot puts it at the tail of the flow's queue and settles the flow. -/
theorem State.enqueue_settles {s : State} (h : s.buffer.freeList ≠ []) (f : FlowNo) (c : StoredCell) : ∃ slot v,
    SameFlows (s.setFlow f { s.flow f with queue := (s.flow f).queue ++ [slot] }) v ∧
    SameFlows (v.settle f (s.flow f)) (s.enqueue f c) := by
  unfold State.enqueue
  split
  next he => exact absurd he h
  next slot rest _ =>
    refine ⟨slot, (s.storeCell f slot rest ((s.flow f).marked s.now c)).countFlow f
      (FlowCounters.addEnqueued ((s.flow f).tags s.now c.de)), ⟨rfl, rfl, rfl, rfl, rfl⟩, ?_⟩
    constructor <;> simp

/-- An admission that ends in the enqueue has found a free slot (R75). -/
theorem State.freeList_of_queued {s : State} {f : FlowNo} {c : StoredCell} (h : s.admission f c = .queued) :
    s.buffer.freeList ≠ [] := by
  intro he
  have ho : s.buffer.occupancy = Config.cellSlots := by simp [CellBuffer.occupancy, he]
  unfold State.admission at h
  dsimp only at h
  split_ifs at h

/-- An admission either changes nothing of the flows, or ends in the enqueue. -/
theorem State.admitCell_cases (s : State) (f : FlowNo) (c : StoredCell) :
    SameFlows s (s.admitCell f c) ∨ s.admission f c = .queued ∧ s.admitCell f c = s.enqueue f c := by
  unfold State.admitCell
  cases s.admission f c with
  | discardedPolice => exact .inl ⟨rfl, rfl, rfl, rfl, rfl⟩
  | discardedShed => exact .inl ⟨rfl, rfl, rfl, rfl, rfl⟩
  | discardedQueue => exact .inl ⟨rfl, rfl, rfl, rfl, rfl⟩
  | discardedPool => exact .inl ⟨rfl, rfl, rfl, rfl, rfl⟩
  | queued => exact .inr ⟨rfl, rfl⟩

/-- A departure takes the flow out of the ready list and its head cell out of its queue, makes the contract arithmetic and
reschedules. -/
theorem State.depart_takesHead {s : State} {p : Port} {q : Priority} {f : FlowNo} {slot : SlotNo} {rest : List SlotNo}
    (hq : (s.flow f).queue = slot :: rest) : ∃ v,
      SameFlows ((s.setReadyList p q (s.readyList p q).tail).setFlow f { s.flow f with queue := rest }) v ∧
      s.depart p q f = (v.departureArithmetic f).afterDeparture f := by
  unfold State.depart
  rw [hq]
  refine ⟨_, ?_, rfl⟩
  cases p <;> constructor <;> simp [State.takeHead, State.setReadyList, State.readyList, State.flow]

/-- The contract arithmetic of a departure updates the due time of a PACE flow, and of no other (R12). -/
theorem sameFlows_departureArithmetic (s : State) (f : FlowNo) :
    SameFlows (s.setFlow f (if (s.flow f).active.mode = .pace then (s.flow f).updated s.now else s.flow f))
      (s.departureArithmetic f) := by
  unfold State.departureArithmetic
  split_ifs
  · exact sameFlows_dueUpdate s f s.now
  · exact ⟨(s.flows_set_flow f).symm, rfl, rfl, rfl, rfl⟩

/-! ## The law of the contracts -/

/-- A record whose contracts and k are another's, and that is live where the other is, is as sound as it. -/
theorem FlowRecord.ContractsSound.congr {r r' : FlowRecord} (h : r.ContractsSound) (ha : r'.active = r.active)
    (hp : r'.pending = r.pending) (hk : r'.cyclePos = r.cyclePos)
    (hl : r.lifecycle.live = true → r'.lifecycle.live = true) : r'.ContractsSound := by
  obtain ⟨hactive, hpending, hposition, hwaiting, hpass⟩ := h
  refine ⟨ha ▸ hactive, hp ▸ hpending, by rw [ha, hk]; exact hposition, fun hs => ?_, fun hm => by rw [hk]; exact hpass (ha ▸ hm)⟩
  obtain ⟨hne, hlive⟩ := hwaiting (hp ▸ hs)
  exact ⟨hk ▸ hne, hl hlive⟩

/-- A record may lose its pending contract. -/
theorem FlowRecord.ContractsSound.without_pending {r r' : FlowRecord} (h : r.ContractsSound) (ha : r'.active = r.active)
    (hp : r'.pending = none) (hk : r'.cyclePos = r.cyclePos) : r'.ContractsSound :=
  ⟨ha ▸ h.active, fun _ hc => (nomatch hp.symm.trans hc), by rw [ha, hk]; exact h.position,
    fun hs => absurd hs (by simp [hp]), fun hm => by rw [hk]; exact h.pass (ha ▸ hm)⟩

theorem Contract.legal_iff (c : Contract) :
    c.legal = true ↔ 2 ≤ c.period.toNat ∧ 1 ≤ c.cycle ∧ c.cycle ≤ 16 ∧ c.extension < c.cycle := by
  simp [Contract.legal, and_assoc]

/-- A record at k 0 under a contract in range, with none pending, is sound. -/
theorem FlowRecord.contractsSound_of_fresh {r : FlowRecord} (ha : r.active.legal = true) (hp : r.pending = none)
    (hk : r.cyclePos = 0) : r.ContractsSound :=
  ⟨ha, fun _ hc => (nomatch hp.symm.trans hc), hk ▸ ((Contract.legal_iff _).mp ha).2.1,
    fun hs => absurd hs (by simp [hp]), fun _ => hk⟩

theorem FlowRecord.promote_of_pending {r : FlowRecord} {c : Contract} (h : r.pending = some c) :
    r.promote = { r with active := c, pending := none, cyclePos := 0 } := by
  rw [FlowRecord.promote, h]

theorem FlowRecord.promote_of_none {r : FlowRecord} (h : r.pending = none) : r.promote = r := by
  rw [FlowRecord.promote, h]

theorem FlowRecord.promote_pending (r : FlowRecord) : r.promote.pending = none := by
  cases h : r.pending with
  | none => rw [FlowRecord.promote_of_none h, h]
  | some c => rw [FlowRecord.promote_of_pending h]

theorem FlowRecord.ContractsSound.promote {r : FlowRecord} (h : r.ContractsSound) : r.promote.ContractsSound := by
  cases hp : r.pending with
  | none => rwa [FlowRecord.promote_of_none hp]
  | some c =>
    rw [FlowRecord.promote_of_pending hp]
    exact FlowRecord.contractsSound_of_fresh (h.pending c hp) rfl rfl

/-- A due-time update keeps the law where the contract is no PASS contract: k stays below C, and where it comes back to 0 a
pending contract is promoted (R3, R18). -/
theorem FlowRecord.ContractsSound.updated {r : FlowRecord} (h : r.ContractsSound) (hm : r.active.mode ≠ .pass) (t : Stamp) :
    (r.updated t).ContractsSound := by
  cases hb : r.atBoundary with
  | true =>
    obtain ⟨hk, hp⟩ := r.atBoundary_iff.mp hb
    obtain ⟨c, hc⟩ := Option.ne_none_iff_exists'.mp hp
    rw [FlowRecord.updated_of_pending hk hc]
    exact FlowRecord.contractsSound_of_fresh (h.pending c hc) rfl rfl
  | false =>
    have e : r.updated t = r.dueUpdate t := by simp [FlowRecord.updated, hb]
    have hC : 0 < r.active.cycle := ((Contract.legal_iff _).mp h.active).2.1
    rw [e]
    refine ⟨h.active, h.pending, Nat.mod_lt _ hC, fun hs => ⟨fun hk => ?_, (h.waiting hs).2⟩, fun hp => absurd hp hm⟩
    have : r.atBoundary = true := r.atBoundary_iff.mpr ⟨hk, Option.isSome_iff_ne_none.mp hs⟩
    exact Bool.false_ne_true (hb.symm.trans this)

theorem FlowRecord.ContractsSound.filed {r : FlowRecord} (h : r.ContractsSound) (now : Stamp) : (r.filed now).ContractsSound :=
  h.congr rfl rfl rfl id

theorem ContractLaw.same {s t : State} (h : ContractLaw s) (e : SameFlows s t) : ContractLaw t := fun f =>
  e.flow f ▸ h f

/-- One record rewritten soundly keeps the law. -/
theorem ContractLaw.setFlow {s : State} (h : ContractLaw s) {f : FlowNo} {r : FlowRecord} (hr : r.ContractsSound) :
    ContractLaw (s.setFlow f r) := fun g => by
  rw [State.flow_setFlow]
  split_ifs
  · exact hr
  · exact h g

theorem ContractLaw.written {s t : State} {f : FlowNo} {r : FlowRecord} (h : ContractLaw s) (e : SameFlows (s.setFlow f r) t)
    (hr : r.ContractsSound) : ContractLaw t :=
  (h.setFlow hr).same e

theorem ContractLaw.place {s : State} (h : ContractLaw s) (f : FlowNo) : ContractLaw (s.place f) := fun g => by
  rw [State.place_flow]
  split_ifs
  · exact (h f).filed s.now
  · exact h g

theorem ContractLaw.reschedule {s : State} (h : ContractLaw s) (f : FlowNo) : ContractLaw (s.reschedule f) := fun g => by
  rw [State.reschedule_flow]
  split_ifs
  · exact (h f).filed s.now
  · exact h g

theorem ContractLaw.unschedule {s : State} (h : ContractLaw s) (f : FlowNo) : ContractLaw (s.unschedule f) := fun g => by
  rw [State.unschedule_flow]
  exact h g

theorem ContractLaw.serviceCalendar {s : State} (h : ContractLaw s) : ContractLaw s.serviceCalendar := fun g => by
  rw [State.serviceCalendar_flow]
  split_ifs
  · exact (h g).congr rfl rfl rfl id
  · exact h g

theorem ContractLaw.sweepVisit {s : State} (h : ContractLaw s) (f : FlowNo) : ContractLaw (s.sweepVisit f) := fun g => by
  rw [State.sweepVisit_flow]
  split_ifs
  · unfold FlowRecord.swept
    split_ifs
    · exact (h f).congr rfl rfl rfl id
    · exact h f
  · exact h g

theorem ContractLaw.tick {s : State} (h : ContractLaw s) : ContractLaw s.tick := by
  unfold State.tick
  split_ifs
  · exact h
  · have ht : ContractLaw (s.withTime s.time.tick) := h
    exact ht.serviceCalendar.sweepVisit _

/-- Only a POLICE contract gives a CONFORMING verdict, and only at a time not before D − T (R4, R5). -/
theorem FlowRecord.judge_conforming_iff (r : FlowRecord) (t : Stamp) :
    r.judge t = .conforming ↔ r.active.mode.polices = true ∧ notBefore t r.eligibleTime = true := by
  unfold FlowRecord.judge
  split_ifs <;> simp_all

theorem ContractLaw.settle {v : State} {f : FlowNo} {r : FlowRecord} (h : ContractLaw v) (ha : r.active = (v.flow f).active) :
    ContractLaw (v.settle f r) := by
  obtain ⟨u, e, es⟩ := v.settle_eq f r
  have hu : ContractLaw u := by
    refine h.written e ?_
    split_ifs with hc
    · have hp := ((r.judge_conforming_iff v.now).mp hc).1
      refine (h f).updated (fun hm => ?_) v.now
      rw [ha, hm] at hp
      exact nomatch hp
    · exact h f
  rw [es]
  split_ifs
  · exact hu.place f
  · exact hu.reschedule f
  · exact hu

theorem ContractLaw.admitCell {s : State} (h : ContractLaw s) (f : FlowNo) (c : StoredCell) : ContractLaw (s.admitCell f c) := by
  rcases s.admitCell_cases f c with e | ⟨hq, ea⟩
  · exact h.same e
  · obtain ⟨slot, v, e, e'⟩ := State.enqueue_settles (State.freeList_of_queued hq) f c
    rw [ea]
    have hv : ContractLaw v := h.written e ((h f).congr rfl rfl rfl id)
    have ha : (v.flow f).active = (s.flow f).active := by rw [e.flow, State.flow_setFlow_self]
    exact (hv.settle ha.symm).same e'

theorem ContractLaw.depart {s : State} (h : ContractLaw s) (p : Port) (q : Priority) (f : FlowNo) :
    ContractLaw (s.depart p q f) := by
  have hl : ContractLaw (s.setReadyList p q (s.readyList p q).tail) :=
    fun g => State.flow_congr (s := s.setReadyList p q _) (t := s) (by simp) g ▸ h g
  cases hq : (s.flow f).queue with
  | nil =>
    rw [State.depart, hq]
    exact hl.same (sameFlows_transmit _ _ _)
  | cons slot rest =>
    obtain ⟨v, e, ed⟩ := State.depart_takesHead (p := p) (q := q) hq
    have hv : ContractLaw v := hl.written e ((h f).congr rfl rfl rfl id)
    have hw : ContractLaw (v.departureArithmetic f) := by
      refine hv.written (sameFlows_departureArithmetic v f) ?_
      split_ifs with hm
      · exact (hv f).updated (by simp [hm]) v.now
      · exact hv f
    rw [ed, State.afterDeparture]
    split_ifs with hd
    · refine hw.written (sameFlows_finishDrain _ f) ((hw f).without_pending rfl ?_ rfl)
      by_contra hp
      have := ((hw f).waiting (Option.isSome_iff_ne_none.mpr hp)).2
      rw [hd.2] at this
      exact nomatch this
    · exact hw.place f

theorem ContractLaw.promoteNow {s : State} {f : FlowNo} (h : ∀ g, g ≠ f → (s.flow g).ContractsSound)
    (hf : (s.flow f).promote.ContractsSound) : ContractLaw (s.promoteNow f) := by
  have hp : ContractLaw (s.setFlow f (s.flow f).promote) := fun g => by
    rw [State.flow_setFlow]
    split_ifs with hg
    · exact hf
    · exact h g hg
  exact hp.reschedule f

theorem ContractLaw.setContract {s : State} (h : ContractLaw s) {f : FlowNo} {c : Contract}
    (hl : (s.flow f).lifecycle.live = true) (hc : c.legal = true) : ContractLaw (s.setContract f c).state := by
  have stored : (s.flow f).cyclePos ≠ 0 → ContractLaw (s.setFlow f { s.flow f with pending := some c }) := fun hk =>
    h.setFlow ⟨(h f).active, fun d hd => Option.some.inj hd ▸ hc, (h f).position, fun _ => ⟨hk, hl⟩, (h f).pass⟩
  unfold State.setContract
  dsimp only
  split_ifs with hk
  · refine ContractLaw.promoteNow (fun g hg => ?_) ?_
    · rw [State.flow_setFlow_other _ _ _ _ hg]
      exact h g
    · rw [State.flow_setFlow_self]
      exact FlowRecord.contractsSound_of_fresh hc rfl rfl
  · exact stored hk
  · exact stored hk

theorem ContractLaw.suspend {s : State} (h : ContractLaw s) (f : FlowNo) : ContractLaw (s.suspend f) :=
  (h.unschedule f).setFlow ((h.unschedule f f).congr rfl rfl rfl fun _ => rfl)

theorem ContractLaw.resumeKeep {s : State} (h : ContractLaw s) (f : FlowNo) : ContractLaw (s.resumeKeep f) := by
  have ho : ContractLaw (s.setFlow f { s.flow f with lifecycle := .opened }) := h.setFlow ((h f).congr rfl rfl rfl fun _ => rfl)
  exact ho.place f

theorem ContractLaw.resumeRestart {s : State} (h : ContractLaw s) (f : FlowNo) : ContractLaw (s.resumeRestart f) := by
  have ho : ContractLaw (s.setFlow f { (s.flow f).promote with lifecycle := .opened, due := s.now, cyclePos := 0 }) :=
    h.setFlow (FlowRecord.contractsSound_of_fresh (h f).promote.active (s.flow f).promote_pending rfl)
  exact ho.place f

theorem ContractLaw.startDrain {s : State} (h : ContractLaw s) (f : FlowNo) : ContractLaw (s.startDrain f) :=
  h.written (sameFlows_startDrain s f) ((h f).without_pending rfl rfl rfl)

theorem ContractLaw.closeEmpty {s : State} (h : ContractLaw s) (f : FlowNo) : ContractLaw (s.closeEmpty f) :=
  h.written (sameFlows_closeEmpty s f) ((h f).without_pending rfl rfl rfl)

theorem ContractLaw.flush {s : State} (h : ContractLaw s) (f : FlowNo) : ContractLaw (s.flush f) :=
  (h.unschedule f).written (sameFlows_flush s f) ((h f).without_pending rfl rfl rfl)

theorem FlowsReset.flow {s : State} (h : FlowsReset s) (f : FlowNo) : s.flow f = FlowRecord.reset := by
  simp [State.flow, h.flows, Vector.get_eq_getElem]

theorem FlowsReset.contractLaw {s : State} (h : FlowsReset s) : ContractLaw s := fun f => by
  rw [h.flow]
  exact FlowRecord.contractsSound_of_fresh (by decide) rfl rfl

/-- The law of the contracts is kept by each effect of a command, whatever flows the Active bank names. -/
theorem contractLaw_keptByEffects : KeptByEffects (fun _ => True) ContractLaw where
  same := ContractLaw.same
  reset := FlowsReset.contractLaw
  tick := ContractLaw.tick
  arrives h _ := h.admitCell _ _
  depart h _ := h.depart _ _ _
  openFlow h _ hc := h.setFlow (FlowRecord.contractsSound_of_fresh hc rfl rfl)
  setContract h hl hc := h.setContract hl hc
  commit h _ := ContractLaw.promoteNow (fun g _ => h g) (h _).promote
  suspend h _ := h.suspend _
  resumeKeep h _ := h.resumeKeep _
  resumeRestart h _ := h.resumeRestart _
  startDrain h _ _ := h.startDrain _
  closeEmpty h _ _ := h.closeEmpty _
  flush h := h.flush _

/-- Settles O57: each effect of a command keeps the law, so every step does. -/
theorem contractLawIsKept : Obligations.ContractLawIsKept := fun _ _ h e =>
  contractLaw_keptByEffects.step h (fun _ _ _ _ => trivial) e

end Sys2Proof.Machine

namespace Sys2Proof.Machine

/-! ## Stamps and due times -/

theorem notBefore_iff (a b : Stamp) : notBefore a b = true ↔ (a - b).toNat < 2 ^ 23 := by
  simp [notBefore]

theorem maxStamp_eq (a b : Stamp) : maxStamp a b = if (a - b).toNat < 2 ^ 23 then a else b := by
  simp only [maxStamp, notBefore_iff]

theorem after_iff (a b : Stamp) : after a b = true ↔ 2 ^ 23 ≤ (b - a).toNat := by
  simp [after, before, notBefore]

theorem after_eq_not_notBefore (a b : Stamp) : after a b = !notBefore b a := rfl

theorem toNat_eligibleTime (D now : Stamp) (T : BitVec 16) :
    (now - (D - T.setWidth 24)).toNat = ((now - D).toNat + T.toNat) % 2 ^ 24 := by
  have hT : (T.setWidth 24).toNat = T.toNat := BitVec.toNat_setWidth_of_le (by decide)
  simp only [BitVec.toNat_sub, hT]
  omega

theorem toNat_sub_swap (a b : Stamp) : (a - b).toNat = (2 ^ 24 - (b - a).toNat) % 2 ^ 24 := by
  simp only [BitVec.toNat_sub]
  omega

/-- The due time after an update at `now`: the later of D and now, plus P or P + 1 (R3). -/
theorem FlowRecord.updated_due (r : FlowRecord) (now : Stamp) :
    (r.updated now).due = maxStamp r.due now + BitVec.ofNat 24 (r.active.increment r.cyclePos) := by
  unfold FlowRecord.updated FlowRecord.promote
  split_ifs
  · split <;> rfl
  · rfl

/-- What a due-time update never writes. -/
theorem FlowRecord.updated_frame (r : FlowRecord) (now : Stamp) :
    (r.updated now).lifecycle = r.lifecycle ∧ (r.updated now).egressPort = r.egressPort ∧
    (r.updated now).priority = r.priority ∧ (r.updated now).queue = r.queue ∧ (r.updated now).sched = r.sched ∧
    (r.updated now).eligible = r.eligible := by
  unfold FlowRecord.updated FlowRecord.promote
  split_ifs
  · split <;> simp [FlowRecord.dueUpdate]
  · simp [FlowRecord.dueUpdate]

theorem Contract.increment_le (c : Contract) (k : Nat) : c.increment k ≤ 65536 := by
  have := c.period.isLt
  unfold Contract.increment
  split_ifs <;> omega

/-- The window of R13 for a due time, with `d` ticks of the sweep still to come. -/
def FlowRecord.InWindow (r : FlowRecord) (now : Stamp) (d : Nat) : Prop :=
  (r.due - now).toNat ≤ 131071 ∨ (now - r.due).toNat + d ≤ 65790

/-- An update at a time that is not before D − T puts D at most 65535 + 65536 ticks ahead: T and the increment bound it. -/
theorem FlowRecord.updated_inWindow {r : FlowRecord} {now : Stamp} (h : notBefore now r.eligibleTime = true) (d : Nat) :
    (r.updated now).InWindow now d := by
  refine .inl ?_
  have hinc := r.active.increment_le r.cyclePos
  have hT := r.active.tolerance.isLt
  have hswap := toNat_sub_swap r.due now
  have hlt := (now - r.due).isLt
  have hadd : ∀ a b : Stamp, (a + b - now).toNat = ((a - now).toNat + b.toNat) % 2 ^ 24 := fun a b => by
    simp only [BitVec.toNat_sub, BitVec.toNat_add]
    omega
  rw [notBefore_iff, FlowRecord.eligibleTime, toNat_eligibleTime] at h
  rw [FlowRecord.updated_due, hadd, BitVec.toNat_ofNat, maxStamp_eq]
  split_ifs with hd
  · omega
  · rw [BitVec.sub_self, BitVec.toNat_zero]
    omega

/-! ## The law of scheduling, flow by flow -/

/-- What the law of scheduling says of one record, at Pace Time `now` and `d` ticks before the sweep's visit. -/
structure FlowRecord.Scheduled (r : FlowRecord) (now : Stamp) (d : Nat) : Prop where
  unused : r.lifecycle = .unused → r.queue = []
  stands : r.StandsRight
  filed : r.sched = .waiting → r.active.mode = .pace ∧ r.eligible = r.eligibleTime ∧ after r.eligible now = true
  onTime : r.sched = .ready → r.active.mode = .pace → notBefore now r.eligibleTime = true
  window : r.lifecycle ≠ .unused → r.InWindow now d

/-- Flow `f` stands once where its record says and nowhere else. -/
structure State.Placed (s : State) (f : FlowNo) : Prop where
  ready : ∀ p q, (s.readyList p q).count f =
    if (s.flow f).sched = .ready ∧ (s.flow f).egressPort = p ∧ (s.flow f).priority = q then 1 else 0
  waiting : ∀ i, (s.calendarSlot i).count f =
    if (s.flow f).sched = .waiting ∧ slotIndex (s.flow f).eligible = i then 1 else 0

theorem schedulingLaw_iff (s : State) :
    SchedulingLaw s ↔ ∀ f, (s.flow f).Scheduled s.now (s.sweepDistance f) ∧ s.Placed f := by
  constructor
  · intro h f
    exact ⟨⟨h.unused f, ⟨h.empty f, h.held f⟩, h.filed f, h.onTime f, h.window f⟩, ⟨h.ready f, h.waiting f⟩⟩
  · intro h
    exact ⟨fun f => (h f).1.unused, fun f => (h f).1.stands.1, fun f => (h f).1.stands.2, fun f => (h f).2.ready,
      fun f => (h f).2.waiting, fun f => (h f).1.filed, fun f => (h f).1.onTime, fun f => (h f).1.window⟩

theorem SchedulingLaw.scheduled {s : State} (h : SchedulingLaw s) (f : FlowNo) :
    (s.flow f).Scheduled s.now (s.sweepDistance f) :=
  ((schedulingLaw_iff s).mp h f).1

theorem SchedulingLaw.placed {s : State} (h : SchedulingLaw s) (f : FlowNo) : s.Placed f :=
  ((schedulingLaw_iff s).mp h f).2

theorem FlowRecord.becomes_cases (r : FlowRecord) (now : Stamp) :
    (r.queue = [] ∧ r.becomes now = .empty) ∨ (r.queue ≠ [] ∧ r.lifecycle = .suspended ∧ r.becomes now = .held) ∨
    (r.queue ≠ [] ∧ r.lifecycle ≠ .suspended ∧ r.active.mode = .pace ∧ after r.eligibleTime now = true ∧
      r.becomes now = .waiting) ∨
    (r.queue ≠ [] ∧ r.lifecycle ≠ .suspended ∧ ¬ (r.active.mode = .pace ∧ after r.eligibleTime now = true) ∧
      r.becomes now = .ready) := by
  unfold FlowRecord.becomes FlowRecord.eligibleTime
  split_ifs <;> simp_all

/-- A filed record satisfies all that the law says of scheduling states: its scheduling state was computed from the rest. -/
theorem FlowRecord.filed_scheduled {r : FlowRecord} {now : Stamp} {d : Nat} (hu : r.lifecycle = .unused → r.queue = [])
    (hw : r.lifecycle ≠ .unused → r.InWindow now d) : (r.filed now).Scheduled now d := by
  have hs : (r.filed now).sched = r.becomes now := rfl
  have hx : (r.filed now).eligible = if r.becomes now = .waiting then r.eligibleTime else r.eligible := rfl
  have cases := r.becomes_cases now
  refine ⟨hu, ⟨?_, ?_⟩, fun h => ?_, fun h hm => ?_, hw⟩
  · show r.becomes now = .empty ↔ r.queue = []
    rcases cases with ⟨hq, hb⟩ | ⟨hq, -, hb⟩ | ⟨hq, -, -, -, hb⟩ | ⟨hq, -, -, hb⟩ <;> simp [hq, hb]
  · show r.becomes now = .held ↔ r.lifecycle = .suspended ∧ r.queue ≠ []
    rcases cases with ⟨hq, hb⟩ | ⟨hq, hl, hb⟩ | ⟨hq, hl, -, -, hb⟩ | ⟨hq, hl, -, hb⟩ <;> simp_all
  · rw [hs] at h
    rcases cases with ⟨-, hb⟩ | ⟨-, -, hb⟩ | ⟨-, -, hm, ha, -⟩ | ⟨-, -, -, hb⟩
    · exact nomatch hb.symm.trans h
    · exact nomatch hb.symm.trans h
    · rw [hx, if_pos h]
      exact ⟨hm, rfl, ha⟩
    · exact nomatch hb.symm.trans h
  · rw [hs] at h
    rcases cases with ⟨-, hb⟩ | ⟨-, -, hb⟩ | ⟨-, -, -, -, hb⟩ | ⟨-, -, hn, -⟩
    · exact nomatch hb.symm.trans h
    · exact nomatch hb.symm.trans h
    · exact nomatch hb.symm.trans h
    · by_contra hb
      have hb' : notBefore now r.eligibleTime = false := Bool.eq_false_iff.mpr hb
      exact hn ⟨hm, by rw [after_eq_not_notBefore, hb']; rfl⟩

/-! ## What an event on one flow leaves of the others -/

/-- `t` differs from `s` at most in the record of flow `f` and in where `f` stands. -/
structure OthersKept (s t : State) (f : FlowNo) : Prop where
  flow : ∀ g, g ≠ f → t.flow g = s.flow g
  ready : ∀ g, g ≠ f → ∀ p q, (t.readyList p q).count g = (s.readyList p q).count g
  waiting : ∀ g, g ≠ f → ∀ i, (t.calendarSlot i).count g = (s.calendarSlot i).count g
  now : t.now = s.now
  sweep : t.time.sweep = s.time.sweep

theorem OthersKept.trans {s t u : State} {f : FlowNo} (h : OthersKept s t f) (k : OthersKept t u f) : OthersKept s u f :=
  ⟨fun g hg => (k.flow g hg).trans (h.flow g hg), fun g hg p q => (k.ready g hg p q).trans (h.ready g hg p q),
    fun g hg i => (k.waiting g hg i).trans (h.waiting g hg i), k.now.trans h.now, k.sweep.trans h.sweep⟩

theorem SameFlows.readyList {s t : State} (h : SameFlows s t) (p : Port) (q : Priority) : t.readyList p q = s.readyList p q := by
  simp [State.readyList, h.ready]

theorem SameFlows.calendarSlot {s t : State} (h : SameFlows s t) (i : Fin 1024) : t.calendarSlot i = s.calendarSlot i := by
  simp [State.calendarSlot, h.calendar]

theorem SameFlows.othersKept {s t : State} (h : SameFlows s t) (f : FlowNo) : OthersKept s t f :=
  ⟨fun g _ => h.flow g, fun _ _ p q => by rw [h.readyList], fun _ _ i => by rw [h.calendarSlot], h.now, h.sweep⟩

theorem othersKept_setFlow (s : State) (f : FlowNo) (r : FlowRecord) : OthersKept s (s.setFlow f r) f :=
  ⟨fun g hg => s.flow_setFlow_other f g r hg, fun _ _ _ _ => rfl, fun _ _ _ => rfl, rfl, rfl⟩

/-- A written record, whatever else of the state has changed. -/
theorem SameFlows.othersKept_of_setFlow {s t : State} {f : FlowNo} {r : FlowRecord} (h : SameFlows (s.setFlow f r) t) :
    OthersKept s t f :=
  (othersKept_setFlow s f r).trans (h.othersKept f)

theorem SameFlows.flow_of_setFlow {s t : State} {f : FlowNo} {r : FlowRecord} (h : SameFlows (s.setFlow f r) t) : t.flow f = r := by
  rw [h.flow, State.flow_setFlow_self]

theorem count_joined_other {f g : FlowNo} (h : g ≠ f) (l : List FlowNo) (c : Prop) [Decidable c] :
    (l ++ if c then [f] else []).count g = l.count g := by
  split_ifs <;> simp [h.symm]

theorem count_joined_self (f : FlowNo) (l : List FlowNo) (c : Prop) [Decidable c] :
    (l ++ if c then [f] else []).count f = l.count f + if c then 1 else 0 := by
  split_ifs <;> simp

theorem othersKept_place (s : State) (f : FlowNo) : OthersKept s (s.place f) f := by
  obtain ⟨-, hr, hw⟩ := s.place_does f
  refine ⟨fun g hg => by rw [State.place_flow, if_neg hg], fun g hg p q => ?_, fun g hg i => ?_, by simp [State.now], by simp⟩
  · rw [hr, count_joined_other hg]
  · rw [hw, count_joined_other hg]

theorem State.readyWithout_count_other (s : State) {f g : FlowNo} (h : g ≠ f) (p : Port) (q : Priority) :
    (s.readyWithout f p q).count g = (s.readyList p q).count g := by
  unfold State.readyWithout
  split_ifs
  · exact List.count_erase_of_ne h
  · rfl

theorem State.slotWithout_count_other (s : State) {f g : FlowNo} (h : g ≠ f) (i : Fin 1024) :
    (s.slotWithout f i).count g = (s.calendarSlot i).count g := by
  unfold State.slotWithout
  split_ifs
  · exact List.count_erase_of_ne h
  · rfl

theorem othersKept_unschedule (s : State) (f : FlowNo) : OthersKept s (s.unschedule f) f :=
  ⟨fun g _ => s.unschedule_flow f g, fun g hg p q => by rw [s.unschedule_readyList, s.readyWithout_count_other hg],
    fun g hg i => by rw [s.unschedule_calendarSlot, s.slotWithout_count_other hg], by simp [State.now], by simp⟩

theorem othersKept_reschedule {s : State} {f : FlowNo} (hs : (s.flow f).StandsRight) : OthersKept s (s.reschedule f) f := by
  obtain ⟨-, hstay, hmove⟩ := s.reschedule_does f hs
  have hflow : ∀ g, g ≠ f → (s.reschedule f).flow g = s.flow g := fun g hg => by rw [State.reschedule_flow, if_neg hg]
  by_cases hk : ((s.flow f).filed s.now).sched = (s.flow f).sched ∧
      (((s.flow f).filed s.now).sched = .waiting → ((s.flow f).filed s.now).eligible = (s.flow f).eligible)
  · obtain ⟨er, ec⟩ := hstay hk
    exact ⟨hflow, fun g _ p q => by simp [State.readyList, er], fun g _ i => by simp [State.calendarSlot, ec],
      by simp [State.now], by simp⟩
  · obtain ⟨hr, hw⟩ := hmove hk
    exact ⟨hflow, fun g hg p q => by rw [hr, count_joined_other hg, s.readyWithout_count_other hg],
      fun g hg i => by rw [hw, count_joined_other hg, s.slotWithout_count_other hg], by simp [State.now], by simp⟩

/-! ## Where the flow of the event stands -/

/-- Flow `f` stands in no ready list and in no calendar slot. -/
structure State.Unlisted (s : State) (f : FlowNo) : Prop where
  ready : ∀ p q, (s.readyList p q).count f = 0
  waiting : ∀ i, (s.calendarSlot i).count f = 0

theorem State.Unlisted.same {s t : State} {f : FlowNo} (h : s.Unlisted f) (e : SameFlows s t) : t.Unlisted f :=
  ⟨fun p q => e.readyList p q ▸ h.ready p q, fun i => e.calendarSlot i ▸ h.waiting i⟩

theorem State.Unlisted.setFlow {s : State} {f : FlowNo} (h : s.Unlisted f) (g : FlowNo) (r : FlowRecord) :
    (s.setFlow g r).Unlisted f :=
  ⟨h.ready, h.waiting⟩

/-- A flow that is neither READY nor WAITING stands nowhere. -/
theorem State.Placed.unlisted {s : State} {f : FlowNo} (h : s.Placed f) (hr : (s.flow f).sched ≠ .ready)
    (hw : (s.flow f).sched ≠ .waiting) : s.Unlisted f :=
  ⟨fun p q => by simp [h.ready, hr], fun i => by simp [h.waiting, hw]⟩

theorem State.Unlisted.placed {s : State} {f : FlowNo} (h : s.Unlisted f) (hr : (s.flow f).sched ≠ .ready)
    (hw : (s.flow f).sched ≠ .waiting) : s.Placed f :=
  ⟨fun p q => by simp [h.ready, hr], fun i => by simp [h.waiting, hw]⟩

theorem State.Placed.readyWithout {s : State} {f : FlowNo} (h : s.Placed f) (p : Port) (q : Priority) :
    (s.readyWithout f p q).count f = 0 := by
  unfold State.readyWithout
  split_ifs with hc
  · rw [List.count_erase_self, h.ready, if_pos hc]
  · rw [h.ready, if_neg hc]

theorem State.Placed.slotWithout {s : State} {f : FlowNo} (h : s.Placed f) (i : Fin 1024) : (s.slotWithout f i).count f = 0 := by
  unfold State.slotWithout
  split_ifs with hc
  · rw [List.count_erase_self, h.waiting, if_pos hc]
  · rw [h.waiting, if_neg hc]

/-- A flow that stands where its record says stands nowhere after its removal. -/
theorem State.Placed.unschedule {s : State} {f : FlowNo} (h : s.Placed f) : (s.unschedule f).Unlisted f :=
  ⟨fun p q => by rw [State.unschedule_readyList, h.readyWithout], fun i => by rw [State.unschedule_calendarSlot, h.slotWithout]⟩

/-- A flow stands where its record says as long as the lists and what the record says of them stay. -/
theorem State.Placed.of_setFlow {s t : State} {f : FlowNo} {r : FlowRecord} (h : s.Placed f) (e : SameFlows (s.setFlow f r) t)
    (hs : r.sched = (s.flow f).sched) (hp : r.egressPort = (s.flow f).egressPort) (hq : r.priority = (s.flow f).priority)
    (hx : r.eligible = (s.flow f).eligible) : t.Placed f :=
  ⟨fun p q => by rw [e.readyList, e.flow_of_setFlow, hs, hp, hq]; exact h.ready p q,
    fun i => by rw [e.calendarSlot, e.flow_of_setFlow, hs, hx]; exact h.waiting i⟩

/-- A placement of a flow that stands nowhere puts it where its record then says. -/
theorem State.Unlisted.place {s : State} {f : FlowNo} (h : s.Unlisted f) : (s.place f).Placed f := by
  obtain ⟨-, hr, hw⟩ := s.place_does f
  have hf : (s.place f).flow f = (s.flow f).filed s.now := by rw [State.place_flow, if_pos rfl]
  refine ⟨fun p q => ?_, fun i => ?_⟩
  · rw [hr, hf, count_joined_self, h.ready, Nat.zero_add]
    rfl
  · rw [hw, hf, count_joined_self, h.waiting, Nat.zero_add]

/-- The rescheduling of R17 leaves a flow where its record then says. -/
theorem State.Placed.reschedule {s : State} {f : FlowNo} (h : s.Placed f) (hs : (s.flow f).StandsRight) :
    (s.reschedule f).Placed f := by
  obtain ⟨-, hstay, hmove⟩ := s.reschedule_does f hs
  have hf : (s.reschedule f).flow f = (s.flow f).filed s.now := by rw [State.reschedule_flow, if_pos rfl]
  by_cases hk : ((s.flow f).filed s.now).sched = (s.flow f).sched ∧
      (((s.flow f).filed s.now).sched = .waiting → ((s.flow f).filed s.now).eligible = (s.flow f).eligible)
  · obtain ⟨er, ec⟩ := hstay hk
    obtain ⟨hsched, hx⟩ := hk
    refine ⟨fun p q => ?_, fun i => ?_⟩
    · have el : (s.reschedule f).readyList p q = s.readyList p q := by simp [State.readyList, er]
      rw [el, hf, hsched, h.ready]
      rfl
    · have el : (s.reschedule f).calendarSlot i = s.calendarSlot i := by simp [State.calendarSlot, ec]
      rw [el, hf, h.waiting]
      by_cases hw : ((s.flow f).filed s.now).sched = .waiting
      · rw [hx hw, hsched]
      · rw [if_neg fun c => hw (hsched.trans c.1), if_neg fun c => hw c.1]
  · obtain ⟨hr, hw⟩ := hmove hk
    exact ⟨fun p q => by rw [hr, count_joined_self, h.readyWithout, Nat.zero_add],
      fun i => by rw [hw, count_joined_self, h.slotWithout, Nat.zero_add]⟩

/-! ## The law after an event on one flow -/

theorem State.sweepDistance_congr {s t : State} (h : t.time.sweep = s.time.sweep) (f : FlowNo) :
    t.sweepDistance f = s.sweepDistance f := by
  rw [State.sweepDistance, State.sweepDistance, h]

/-- An event on flow `f` keeps the law when it leaves `f` itself as the law asks. -/
theorem SchedulingLaw.of_othersKept {s t : State} {f : FlowNo} (h : SchedulingLaw s) (o : OthersKept s t f)
    (hr : (t.flow f).Scheduled s.now (s.sweepDistance f)) (hp : t.Placed f) : SchedulingLaw t := by
  refine (schedulingLaw_iff t).mpr fun g => ?_
  rw [o.now, State.sweepDistance_congr o.sweep]
  by_cases hg : g = f
  · rw [hg]
    exact ⟨hr, hp⟩
  · rw [o.flow g hg]
    exact ⟨h.scheduled g, ⟨fun p q => by rw [o.ready g hg, o.flow g hg]; exact (h.placed g).ready p q,
      fun i => by rw [o.waiting g hg, o.flow g hg]; exact (h.placed g).waiting i⟩⟩

theorem SchedulingLaw.same {s t : State} (h : SchedulingLaw s) (e : SameFlows s t) : SchedulingLaw t := by
  have hnow : t.now = s.now := e.now
  refine (schedulingLaw_iff t).mpr fun f => ?_
  rw [hnow, State.sweepDistance_congr e.sweep, e.flow]
  exact ⟨h.scheduled f, ⟨fun p q => by rw [e.readyList, e.flow]; exact (h.placed f).ready p q,
    fun i => by rw [e.calendarSlot, e.flow]; exact (h.placed f).waiting i⟩⟩

/-- What the law asks of a record before it is placed: cells only where the flow is not UNUSED, and D in its window. -/
structure FlowRecord.Placeable (r : FlowRecord) (now : Stamp) (d : Nat) : Prop where
  unused : r.lifecycle = .unused → r.queue = []
  window : r.lifecycle ≠ .unused → r.InWindow now d

theorem SchedulingLaw.place {s v : State} {f : FlowNo} (h : SchedulingLaw s) (o : OthersKept s v f) (hu : v.Unlisted f)
    (hr : (v.flow f).Placeable s.now (s.sweepDistance f)) : SchedulingLaw (v.place f) := by
  refine h.of_othersKept (o.trans (othersKept_place v f)) ?_ hu.place
  rw [State.place_flow, if_pos rfl, o.now]
  exact FlowRecord.filed_scheduled hr.unused hr.window

theorem SchedulingLaw.reschedule {s v : State} {f : FlowNo} (h : SchedulingLaw s) (o : OthersKept s v f) (hp : v.Placed f)
    (hs : (v.flow f).StandsRight) (hr : (v.flow f).Placeable s.now (s.sweepDistance f)) : SchedulingLaw (v.reschedule f) := by
  refine h.of_othersKept (o.trans (othersKept_reschedule hs)) ?_ (hp.reschedule hs)
  rw [State.reschedule_flow, if_pos rfl, o.now]
  exact FlowRecord.filed_scheduled hr.unused hr.window

/-- A record written without moving the flow. -/
theorem SchedulingLaw.written {s t : State} {f : FlowNo} {r : FlowRecord} (h : SchedulingLaw s)
    (e : SameFlows (s.setFlow f r) t) (hr : r.Scheduled s.now (s.sweepDistance f)) (hs : r.sched = (s.flow f).sched)
    (hp : r.egressPort = (s.flow f).egressPort) (hq : r.priority = (s.flow f).priority) (hx : r.eligible = (s.flow f).eligible) :
    SchedulingLaw t :=
  h.of_othersKept e.othersKept_of_setFlow (e.flow_of_setFlow ▸ hr) ((h.placed f).of_setFlow e hs hp hq hx)

/-- A record that is neither READY nor WAITING, written where the flow stands nowhere. -/
theorem SchedulingLaw.written_unlisted {s v t : State} {f : FlowNo} {r : FlowRecord} (h : SchedulingLaw s)
    (o : OthersKept s v f) (hu : v.Unlisted f) (e : SameFlows (v.setFlow f r) t)
    (hr : r.Scheduled s.now (s.sweepDistance f)) (hn : r.sched = .empty ∨ r.sched = .held) : SchedulingLaw t := by
  refine h.of_othersKept (o.trans e.othersKept_of_setFlow) (e.flow_of_setFlow ▸ hr)
    (((hu.setFlow f r).same e).placed ?_ ?_) <;> rw [e.flow_of_setFlow] <;> rcases hn with hn | hn <;> simp [hn]

end Sys2Proof.Machine

namespace Sys2Proof.Machine

/-! ## The law of scheduling under arrivals and departures -/

theorem FlowRecord.StandsRight.nonempty_of_ready {r : FlowRecord} (h : r.StandsRight) (hr : r.sched = .ready) : r.queue ≠ [] := by
  intro hq
  have := h.1.mpr hq
  exact nomatch this.symm.trans hr

theorem FlowRecord.StandsRight.nonempty_of_waiting {r : FlowRecord} (h : r.StandsRight) (hw : r.sched = .waiting) :
    r.queue ≠ [] := by
  intro hq
  have := h.1.mpr hq
  exact nomatch this.symm.trans hw

theorem FlowRecord.Scheduled.used_of_queue {r : FlowRecord} {now : Stamp} {d : Nat} (h : r.Scheduled now d)
    (hq : r.queue ≠ []) : r.lifecycle ≠ .unused :=
  fun hl => hq (h.unused hl)

/-- The record of an enqueue, before it is placed: the cell joined, and the due time updated when it conforms. -/
def FlowRecord.joined (r : FlowRecord) (now : Stamp) (slot : SlotNo) : FlowRecord :=
  if r.judge now = .conforming then ({ r with queue := r.queue ++ [slot] } : FlowRecord).updated now
  else { r with queue := r.queue ++ [slot] }

theorem FlowRecord.joined_frame (r : FlowRecord) (now : Stamp) (slot : SlotNo) :
    (r.joined now slot).lifecycle = r.lifecycle ∧ (r.joined now slot).egressPort = r.egressPort ∧
    (r.joined now slot).priority = r.priority ∧ (r.joined now slot).queue = r.queue ++ [slot] ∧
    (r.joined now slot).sched = r.sched ∧ (r.joined now slot).eligible = r.eligible := by
  unfold FlowRecord.joined
  split_ifs
  · exact FlowRecord.updated_frame _ now
  · exact ⟨rfl, rfl, rfl, rfl, rfl, rfl⟩

theorem FlowRecord.joined_inWindow {r : FlowRecord} {now : Stamp} {d : Nat} (slot : SlotNo) (h : r.InWindow now d) :
    (r.joined now slot).InWindow now d := by
  unfold FlowRecord.joined
  split_ifs with hc
  · exact FlowRecord.updated_inWindow (r := { r with queue := r.queue ++ [slot] }) ((r.judge_conforming_iff now).mp hc).2 d
  · exact h

/-- Where no contract is promoted, an enqueue leaves the active contract. -/
theorem FlowRecord.joined_active {r : FlowRecord} {now : Stamp} (slot : SlotNo)
    (h : ¬ (r.judge now = .conforming ∧ r.atBoundary = true)) : (r.joined now slot).active = r.active := by
  unfold FlowRecord.joined FlowRecord.updated
  split_ifs with hc hb
  · exact absurd ⟨hc, hb⟩ h
  · rfl
  · rfl

/-- Under PASS and PACE an enqueue changes no due time. -/
theorem FlowRecord.joined_of_pace {r : FlowRecord} {now : Stamp} (slot : SlotNo) (h : r.active.mode = .pace) :
    r.joined now slot = { r with queue := r.queue ++ [slot] } := by
  refine if_neg fun hc => ?_
  have := ((r.judge_conforming_iff now).mp hc).1
  rw [h] at this
  exact nomatch this

/-- An enqueue on a queue that was not empty, with no promotion, leaves a record that needs no new place. -/
theorem FlowRecord.joined_scheduled {r : FlowRecord} {now : Stamp} {d : Nat} (slot : SlotNo) (h : r.Scheduled now d)
    (hq : r.queue ≠ []) (hn : ¬ (r.judge now = .conforming ∧ r.atBoundary = true)) : (r.joined now slot).Scheduled now d := by
  obtain ⟨hl, -, -, hqueue, hs, -⟩ := r.joined_frame now slot
  have hne : (r.joined now slot).queue ≠ [] := by simp [hqueue]
  have hused := h.used_of_queue hq
  refine ⟨fun hu => absurd (hl ▸ hu) hused, ⟨?_, ?_⟩, fun hw => ?_, fun hr hm => ?_, fun _ => joined_inWindow slot (h.window hused)⟩
  · rw [hs, h.stands.1]
    exact iff_of_false hq hne
  · rw [hs, hl, h.stands.2]
    simp [hq, hne]
  · obtain ⟨hm, hx, ha⟩ := h.filed (hs ▸ hw)
    rw [joined_of_pace slot hm]
    exact ⟨hm, hx, ha⟩
  · rw [joined_active slot hn] at hm
    rw [joined_of_pace slot hm]
    exact h.onTime (hs ▸ hr) hm

/-- An admission to a flow that is OPEN or SUSPENDED keeps the law. -/
theorem SchedulingLaw.admitCell {s : State} {f : FlowNo} (h : SchedulingLaw s) (hl : (s.flow f).lifecycle.live = true)
    (c : StoredCell) : SchedulingLaw (s.admitCell f c) := by
  rcases s.admitCell_cases f c with e | ⟨hqueued, ea⟩
  · exact h.same e
  obtain ⟨slot, v, ev, e⟩ := State.enqueue_settles (State.freeList_of_queued hqueued) f c
  rw [ea]
  refine SchedulingLaw.same ?_ e
  obtain ⟨u, eu, es⟩ := v.settle_eq f (s.flow f)
  have hused : (s.flow f).lifecycle ≠ .unused := fun hu => by
    rw [hu] at hl
    exact nomatch hl
  have e' : SameFlows (s.setFlow f ((s.flow f).joined s.now slot)) u := by
    have hnow : v.now = s.now := ev.now
    rw [ev.flow_of_setFlow, hnow] at eu
    have := (ev.setFlow f ((s.flow f).joined s.now slot)).trans eu
    rwa [State.setFlow_setFlow] at this
  obtain ⟨jl, jp, jq, jqueue, js, jx⟩ := (s.flow f).joined_frame s.now slot
  have hplace : (u.flow f).Placeable s.now (s.sweepDistance f) := by
    rw [e'.flow_of_setFlow]
    exact ⟨fun hu => absurd (jl ▸ hu) hused, fun _ => FlowRecord.joined_inWindow slot ((h.scheduled f).window hused)⟩
  have hnow : v.now = s.now := ev.now
  rw [es, hnow]
  split_ifs with hq hc
  · have hs : (s.flow f).sched = .empty := (h.empty f).mpr hq
    have hu : s.Unlisted f := (h.placed f).unlisted (by simp [hs]) (by simp [hs])
    exact h.place e'.othersKept_of_setFlow ((hu.setFlow f _).same e') hplace
  · refine h.reschedule e'.othersKept_of_setFlow ((h.placed f).of_setFlow e' js jp jq jx) ?_ hplace
    rw [e'.flow_of_setFlow]
    have hne : ((s.flow f).joined s.now slot).queue ≠ [] := by simp [jqueue]
    refine ⟨?_, ?_⟩
    · rw [js, h.empty]
      exact iff_of_false hq hne
    · rw [js, jl, h.held]
      simp [hq, hne]
  · exact h.written e' (FlowRecord.joined_scheduled slot (h.scheduled f) hq hc) js jp jq jx

/-- The head flow of a ready list is READY and stands in no other list. -/
theorem SchedulingLaw.ready_of_head {s : State} {p : Port} {q : Priority} {f : FlowNo} {l : List FlowNo} (h : SchedulingLaw s)
    (hl : s.readyList p q = f :: l) :
    (s.flow f).sched = .ready ∧ (s.flow f).egressPort = p ∧ (s.flow f).priority = q := by
  by_contra hn
  have := h.ready f p q
  rw [if_neg hn, hl, List.count_cons_self] at this
  exact nomatch this

theorem othersKept_dropHead {s : State} {p : Port} {q : Priority} {f : FlowNo} {l : List FlowNo}
    (hl : s.readyList p q = f :: l) : OthersKept s (s.setReadyList p q l) f := by
  refine ⟨fun g _ => State.flow_congr (by simp) g, fun g hg p' q' => ?_, fun g _ i => by simp [State.calendarSlot],
    by simp [State.now], by simp⟩
  rw [State.readyList_setReadyList]
  split_ifs with hc
  · rw [hc.1, hc.2, hl, List.count_cons_of_ne hg.symm]
  · rfl

/-- A departing flow stands nowhere once it has left the head of its ready list. -/
theorem SchedulingLaw.unlisted_of_head {s : State} {p : Port} {q : Priority} {f : FlowNo} {l : List FlowNo}
    (h : SchedulingLaw s) (hl : s.readyList p q = f :: l) : (s.setReadyList p q l).Unlisted f := by
  obtain ⟨hs, hp, hq⟩ := h.ready_of_head hl
  refine ⟨fun p' q' => ?_, fun i => ?_⟩
  · rw [State.readyList_setReadyList]
    split_ifs with hc
    · have := h.ready f p q
      rw [hl, List.count_cons_self, if_pos ⟨hs, hp, hq⟩] at this
      exact Nat.succ_inj.mp this
    · rw [h.ready, if_neg fun e => hc ⟨e.2.1.symm.trans hp, e.2.2.symm.trans hq⟩]
  · have hw := h.waiting f i
    rw [if_neg fun e => by rw [hs] at e; exact nomatch e.1] at hw
    simpa [State.calendarSlot] using hw

/-- The record of a departure, before it is placed: the head cell gone, and the due time of a PACE flow updated. -/
def FlowRecord.departed (r : FlowRecord) (now : Stamp) (rest : List SlotNo) : FlowRecord :=
  if r.active.mode = .pace then ({ r with queue := rest } : FlowRecord).updated now else { r with queue := rest }

theorem FlowRecord.departed_frame (r : FlowRecord) (now : Stamp) (rest : List SlotNo) :
    (r.departed now rest).lifecycle = r.lifecycle ∧ (r.departed now rest).egressPort = r.egressPort ∧
    (r.departed now rest).priority = r.priority ∧ (r.departed now rest).queue = rest ∧
    (r.departed now rest).sched = r.sched ∧ (r.departed now rest).eligible = r.eligible := by
  unfold FlowRecord.departed
  split_ifs
  · exact FlowRecord.updated_frame _ now
  · exact ⟨rfl, rfl, rfl, rfl, rfl, rfl⟩

/-- A PACE flow departs no earlier than D − T, so its new due time is in the window (R11, R13). -/
theorem FlowRecord.departed_inWindow {r : FlowRecord} {now : Stamp} {d : Nat} (rest : List SlotNo) (h : r.InWindow now d)
    (ht : r.active.mode = .pace → notBefore now r.eligibleTime = true) : (r.departed now rest).InWindow now d := by
  unfold FlowRecord.departed
  split_ifs with hm
  · exact FlowRecord.updated_inWindow (r := { r with queue := rest }) (ht hm) d
  · exact h

/-- A departure up to its rescheduling: the flow is out of its ready list, and its record is the departed one. -/
theorem State.depart_eq_afterDeparture {s : State} {p : Port} {q : Priority} {f : FlowNo} {l : List FlowNo} {slot : SlotNo}
    {rest : List SlotNo} (hl : s.readyList p q = f :: l) (hq : (s.flow f).queue = slot :: rest) : ∃ w,
      SameFlows ((s.setReadyList p q l).setFlow f ((s.flow f).departed s.now rest)) w ∧ s.depart p q f = w.afterDeparture f := by
  obtain ⟨v, ev, ed⟩ := State.depart_takesHead (p := p) (q := q) hq
  refine ⟨_, ?_, ed⟩
  have hnow : v.now = s.now := by
    have := ev.now
    simpa [State.now] using this
  have ew := sameFlows_departureArithmetic v f
  rw [ev.flow_of_setFlow, hnow] at ew
  have := (ev.setFlow f ((s.flow f).departed s.now rest)).trans ew
  rwa [State.setFlow_setFlow, hl] at this

/-- A departure keeps the law. -/
theorem SchedulingLaw.depart {s : State} {p : Port} {q : Priority} {f : FlowNo} {l : List FlowNo} (h : SchedulingLaw s)
    (hl : s.readyList p q = f :: l) : SchedulingLaw (s.depart p q f) := by
  obtain ⟨hs, -, -⟩ := h.ready_of_head hl
  have hne := (h.scheduled f).stands.nonempty_of_ready hs
  have hused := (h.scheduled f).used_of_queue hne
  obtain ⟨slot, rest, hq⟩ := List.exists_cons_of_ne_nil hne
  obtain ⟨w, ew, ed⟩ := State.depart_eq_afterDeparture hl hq
  have hw : w.flow f = (s.flow f).departed s.now rest := ew.flow_of_setFlow
  obtain ⟨dl, -, -, dq, -, -⟩ := (s.flow f).departed_frame s.now rest
  have others : OthersKept s w f := (othersKept_dropHead hl).trans ew.othersKept_of_setFlow
  have alone : w.Unlisted f := ((h.unlisted_of_head hl).setFlow f _).same ew
  rw [ed, State.afterDeparture]
  split_ifs with hd
  · refine h.written_unlisted others alone (sameFlows_finishDrain w f) ?_ (.inl rfl)
    exact ⟨fun _ => hd.1, ⟨iff_of_true rfl hd.1, iff_of_false (fun e => nomatch e) fun e => (nomatch e.1)⟩,
      fun e => (nomatch e), fun e => (nomatch e), fun e => absurd rfl e⟩
  · refine h.place others alone ?_
    rw [hw]
    exact ⟨fun hu => absurd (dl ▸ hu) hused,
      fun _ => FlowRecord.departed_inWindow rest ((h.scheduled f).window hused) ((h.scheduled f).onTime hs)⟩

/-! ## The law of scheduling under the requests -/

/-- A record that is EMPTY without cells, or HELD with cells on a SUSPENDED flow, is as the law asks, D being in its window. -/
theorem FlowRecord.scheduled_of_rest {r : FlowRecord} {now : Stamp} {d : Nat}
    (h : r.queue = [] ∧ r.sched = .empty ∨ r.queue ≠ [] ∧ r.lifecycle = .suspended ∧ r.sched = .held)
    (hw : r.lifecycle ≠ .unused → r.InWindow now d) : r.Scheduled now d := by
  rcases h with ⟨hq, hs⟩ | ⟨hq, hl, hs⟩
  · exact ⟨fun _ => hq, ⟨by simp [hq, hs], by simp [hq, hs]⟩, by simp [hs], by simp [hs], hw⟩
  · exact ⟨by simp [hl], ⟨by simp [hq, hs], by simp [hq, hl, hs]⟩, by simp [hs], by simp [hs], hw⟩

theorem FlowRecord.inWindow_of_due_now {r : FlowRecord} {now : Stamp} (h : r.due = now) (d : Nat) : r.InWindow now d :=
  .inl (by simp [h])

theorem SchedulingLaw.unlisted_of_empty {s : State} {f : FlowNo} (h : SchedulingLaw s) (hq : (s.flow f).queue = []) :
    s.Unlisted f := by
  have hs := (h.empty f).mpr hq
  exact (h.placed f).unlisted (by simp [hs]) (by simp [hs])

/-- A SUSPENDED flow stands nowhere. -/
theorem SchedulingLaw.unlisted_of_suspended {s : State} {f : FlowNo} (h : SchedulingLaw s)
    (hl : (s.flow f).lifecycle = .suspended) : s.Unlisted f := by
  by_cases hq : (s.flow f).queue = []
  · exact h.unlisted_of_empty hq
  · have hs := (h.held f).mpr ⟨hl, hq⟩
    exact (h.placed f).unlisted (by simp [hs]) (by simp [hs])

theorem SchedulingLaw.openFlow {s : State} {f : FlowNo} (h : SchedulingLaw s) (hl : (s.flow f).lifecycle = .unused) (p : Port)
    (ch : UserChannel) (q : Priority) (lim : Nat) (c : Contract) :
    SchedulingLaw (s.setFlow f ((s.flow f).openWith s.now p ch q lim c)) :=
  h.written_unlisted ((SameFlows.refl s).othersKept f) (h.unlisted_of_empty (h.unused f hl)) (.refl _)
    (FlowRecord.scheduled_of_rest (.inl ⟨rfl, rfl⟩) fun _ => FlowRecord.inWindow_of_due_now rfl _) (.inl rfl)

/-- What a promotion never writes. -/
theorem FlowRecord.promote_frame (r : FlowRecord) :
    r.promote.lifecycle = r.lifecycle ∧ r.promote.egressPort = r.egressPort ∧ r.promote.priority = r.priority ∧
    r.promote.queue = r.queue ∧ r.promote.sched = r.sched ∧ r.promote.eligible = r.eligible ∧ r.promote.due = r.due := by
  unfold FlowRecord.promote
  split <;> simp

/-- The promotion of SET_CONTRACT and COMMIT_CONTRACT keeps the law, whatever contract is pending. -/
theorem SchedulingLaw.promoteNow {s : State} {f : FlowNo} {pend : Option Contract} (h : SchedulingLaw s)
    (hl : (s.flow f).lifecycle.live = true) :
    SchedulingLaw ((s.setFlow f { s.flow f with pending := pend }).promoteNow f) := by
  have hused : (s.flow f).lifecycle ≠ .unused := fun hu => by
    rw [hu] at hl
    exact nomatch hl
  let r : FlowRecord := { s.flow f with pending := pend }
  obtain ⟨pl, pp, pq, pqueue, ps, px, pd⟩ := r.promote_frame
  have e : (s.setFlow f r).setFlow f ((s.setFlow f r).flow f).promote = s.setFlow f r.promote := by
    rw [State.setFlow_setFlow, State.flow_setFlow_self]
  show SchedulingLaw (((s.setFlow f r).setFlow f ((s.setFlow f r).flow f).promote).reschedule f)
  rw [e]
  have placed := (h.placed f).of_setFlow (.refl (s.setFlow f r.promote)) ps pp pq px
  refine h.reschedule (othersKept_setFlow s f _) placed ?_ ?_ <;> rw [State.flow_setFlow_self]
  · rw [FlowRecord.StandsRight, pl, pqueue, ps]
    exact (h.scheduled f).stands
  · refine ⟨fun hu => absurd (pl ▸ hu) hused, fun _ => ?_⟩
    rw [FlowRecord.InWindow, pd]
    exact (h.scheduled f).window hused

theorem SchedulingLaw.commit {s : State} {f : FlowNo} (h : SchedulingLaw s) (hl : (s.flow f).lifecycle.live = true) :
    SchedulingLaw (s.promoteNow f) := by
  have := h.promoteNow (pend := (s.flow f).pending) hl
  rwa [show s.setFlow f { s.flow f with pending := (s.flow f).pending } = s from
    congrArg s.withFlows (s.flows_set_flow f)] at this

theorem SchedulingLaw.setContract {s : State} {f : FlowNo} {c : Contract} (h : SchedulingLaw s)
    (hl : (s.flow f).lifecycle.live = true) : SchedulingLaw (s.setContract f c).state := by
  have stored : SchedulingLaw (s.setFlow f { s.flow f with pending := some c }) := by
    obtain ⟨hu, hs, hf, ht, hw⟩ := h.scheduled f
    exact h.written (.refl _) ⟨hu, hs, hf, ht, hw⟩ rfl rfl rfl rfl
  unfold State.setContract
  dsimp only
  split_ifs
  · exact h.promoteNow hl
  · exact stored
  · exact stored

theorem SchedulingLaw.suspend {s : State} {f : FlowNo} (h : SchedulingLaw s) (hl : (s.flow f).lifecycle = .opened) :
    SchedulingLaw (s.suspend f) := by
  have hw := (h.scheduled f).window (by simp [hl])
  have hu := s.unschedule_flow f f
  refine h.written_unlisted (othersKept_unschedule s f) (h.placed f).unschedule (.refl _) ?_ ?_ <;> rw [hu] <;>
    by_cases hq : (s.flow f).queue = []
  · exact FlowRecord.scheduled_of_rest (.inl ⟨hq, if_pos hq⟩) fun _ => hw
  · exact FlowRecord.scheduled_of_rest (.inr ⟨hq, rfl, if_neg hq⟩) fun _ => hw
  · exact .inl (if_pos hq)
  · exact .inr (if_neg hq)

theorem SchedulingLaw.resumeKeep {s : State} {f : FlowNo} (h : SchedulingLaw s) (hl : (s.flow f).lifecycle = .suspended) :
    SchedulingLaw (s.resumeKeep f) := by
  refine h.place (othersKept_setFlow s f _) ((h.unlisted_of_suspended hl).setFlow f _) ?_
  rw [State.flow_setFlow_self]
  exact ⟨fun hu => (nomatch hu), fun _ => (h.scheduled f).window (by simp [hl])⟩

theorem SchedulingLaw.resumeRestart {s : State} {f : FlowNo} (h : SchedulingLaw s) (hl : (s.flow f).lifecycle = .suspended) :
    SchedulingLaw (s.resumeRestart f) := by
  refine h.place (othersKept_setFlow s f _) ((h.unlisted_of_suspended hl).setFlow f _) ?_
  rw [State.flow_setFlow_self]
  exact ⟨fun hu => (nomatch hu), fun _ => FlowRecord.inWindow_of_due_now rfl _⟩

theorem SchedulingLaw.startDrain {s : State} {f : FlowNo} (h : SchedulingLaw s) (hl : (s.flow f).lifecycle = .opened) :
    SchedulingLaw (s.startDrain f) := by
  obtain ⟨-, hs, hf, ht, hw⟩ := h.scheduled f
  have hn : (s.flow f).sched ≠ .held := fun e => by
    have := (hs.2.mp e).1
    rw [hl] at this
    exact nomatch this
  refine h.written (sameFlows_startDrain s f) ⟨fun e => (nomatch e), ⟨hs.1, ?_⟩, hf, ht, fun _ => hw (by simp [hl])⟩ rfl rfl rfl rfl
  exact iff_of_false hn fun e => (nomatch e.1)

theorem SchedulingLaw.closeEmpty {s : State} {f : FlowNo} (h : SchedulingLaw s) (hq : (s.flow f).queue = []) :
    SchedulingLaw (s.closeEmpty f) := by
  have hs := (h.empty f).mpr hq
  exact h.written (sameFlows_closeEmpty s f) (FlowRecord.scheduled_of_rest (.inl ⟨hq, hs⟩) fun e => absurd rfl e) rfl rfl rfl rfl

theorem SchedulingLaw.flush {s : State} (h : SchedulingLaw s) (f : FlowNo) : SchedulingLaw (s.flush f) :=
  h.written_unlisted (othersKept_unschedule s f) (h.placed f).unschedule (sameFlows_flush s f)
    (FlowRecord.scheduled_of_rest (.inl ⟨rfl, rfl⟩) fun e => absurd rfl e) (.inl rfl)

theorem FlowsReset.readyList {s : State} (h : FlowsReset s) (p : Port) (q : Priority) : s.readyList p q = [] := by
  cases p <;> simp [State.readyList, h.ready, ReadyLists.reset, ReadyLists.lists, Vector.get_eq_getElem]

theorem FlowsReset.calendarSlot {s : State} (h : FlowsReset s) (i : Fin 1024) : s.calendarSlot i = [] := by
  simp [State.calendarSlot, h.calendar, calendarReset, Vector.get_eq_getElem]

theorem FlowsReset.schedulingLaw {s : State} (h : FlowsReset s) : SchedulingLaw s := by
  refine (schedulingLaw_iff s).mpr fun f => ⟨?_, State.Unlisted.placed ⟨fun p q => ?_, fun i => ?_⟩ ?_ ?_⟩
  · rw [h.flow]
    exact FlowRecord.scheduled_of_rest (.inl ⟨rfl, rfl⟩) fun e => absurd rfl e
  · rw [h.readyList]
    rfl
  · rw [h.calendarSlot]
    rfl
  · simp [h.flow, FlowRecord.reset]
  · simp [h.flow, FlowRecord.reset]

end Sys2Proof.Machine

namespace Sys2Proof.Machine

/-! ## The law of scheduling under a tick -/

/-- The record after the calendar service of Pace Time `now`, for a flow that stands where the law asks (R90). -/
def FlowRecord.serviced (r : FlowRecord) (now : Stamp) : FlowRecord :=
  if r.sched = .waiting ∧ r.eligible = now then { r with sched := .ready } else r

theorem FlowRecord.serviced_frame (r : FlowRecord) (now : Stamp) :
    (r.serviced now).lifecycle = r.lifecycle ∧ (r.serviced now).egressPort = r.egressPort ∧
    (r.serviced now).priority = r.priority ∧ (r.serviced now).queue = r.queue ∧ (r.serviced now).active = r.active ∧
    (r.serviced now).due = r.due ∧ (r.serviced now).eligible = r.eligible := by
  unfold FlowRecord.serviced
  split_ifs <;> simp

theorem FlowRecord.swept_frame (r : FlowRecord) (now : Stamp) :
    (r.swept now).lifecycle = r.lifecycle ∧ (r.swept now).egressPort = r.egressPort ∧ (r.swept now).priority = r.priority ∧
    (r.swept now).sched = r.sched ∧ (r.swept now).eligible = r.eligible := by
  unfold FlowRecord.swept
  split_ifs <;> simp

theorem toNat_succ_sub (a b : Stamp) : (a + 1 - b).toNat = ((a - b).toNat + 1) % 2 ^ 24 := by
  have one : (1 : Stamp).toNat = 1 := rfl
  simp only [BitVec.toNat_sub, BitVec.toNat_add, one]
  omega

/-- A stamp that is after now is after the next Pace Time, unless it is that Pace Time. -/
theorem after_succ {x now : Stamp} (h : after x now = true) (hx : x ≠ now + 1) : after x (now + 1) = true := by
  rw [after_iff] at *
  have h1 := toNat_succ_sub now x
  have hne : (now + 1 - x).toNat ≠ 0 := fun h0 =>
    hx (sub_eq_zero.mp (BitVec.eq_of_toNat_eq h0 : now + 1 - x = 0)).symm
  have hlt := (now - x).isLt
  omega

/-- A D − T that is not after now and belongs to a D in its window is not after the next Pace Time either. -/
theorem FlowRecord.InWindow.onTime_succ {r : FlowRecord} {now : Stamp} {d : Nat} (h : r.InWindow now d)
    (ht : notBefore now r.eligibleTime = true) : notBefore (now + 1) r.eligibleTime = true := by
  rw [notBefore_iff, FlowRecord.eligibleTime] at *
  rw [toNat_eligibleTime] at *
  rw [toNat_succ_sub]
  have h1 := toNat_sub_swap r.due now
  have hT := r.active.tolerance.isLt
  have hlt := (now - r.due).isLt
  rcases h with h | h <;> omega

/-- The service of the next Pace Time keeps what the law says of a record's scheduling state. -/
theorem FlowRecord.Scheduled.serviced {r : FlowRecord} {now : Stamp} {d d' : Nat} (h : r.Scheduled now d)
    (hw : r.lifecycle ≠ .unused → r.InWindow (now + 1) d') : (r.serviced (now + 1)).Scheduled (now + 1) d' := by
  unfold FlowRecord.serviced
  split_ifs with hs
  · obtain ⟨hsw, hx⟩ := hs
    obtain ⟨-, hxe, -⟩ := h.filed hsw
    have hne := h.stands.nonempty_of_waiting hsw
    have hnh : ¬ (r.lifecycle = .suspended ∧ r.queue ≠ []) := fun e => nomatch hsw.symm.trans (h.stands.2.mpr e)
    refine ⟨h.unused, ⟨iff_of_false (fun e => nomatch e) hne, iff_of_false (fun e => nomatch e) hnh⟩, fun e => (nomatch e),
      fun _ _ => ?_, hw⟩
    show notBefore (now + 1) r.eligibleTime = true
    rw [← hxe, hx, notBefore_iff]
    simp
  · refine ⟨h.unused, h.stands, fun hsw => ?_, fun hr hm => ?_, hw⟩
    · obtain ⟨hm, hx, ha⟩ := h.filed hsw
      exact ⟨hm, hx, after_succ ha fun e => hs ⟨hsw, e⟩⟩
    · exact (h.window (h.used_of_queue (h.stands.nonempty_of_ready hr))).onTime_succ (h.onTime hr hm)

theorem FlowRecord.stale_iff (r : FlowRecord) (now : Stamp) :
    r.stale now = true ↔ 65536 ≤ (now - r.due).toNat ∧ (now - r.due).toNat < 2 ^ 23 := by
  rw [FlowRecord.stale, Bool.and_eq_true]
  exact and_congr decide_eq_true_iff decide_eq_true_iff

/-- The window at the next Pace Time of a flow that the sweep does not visit now. -/
theorem FlowRecord.InWindow.succ {r : FlowRecord} {now : Stamp} {d : Nat} (h : r.InWindow now (d + 1)) (hd : d ≤ 254) :
    r.InWindow (now + 1) d := by
  have h1 := toNat_succ_sub now r.due
  have h2 := toNat_sub_swap r.due (now + 1)
  have h3 := toNat_sub_swap r.due now
  have hlt := (now - r.due).isLt
  unfold FlowRecord.InWindow at *
  rcases h with h | h <;> omega

/-- The window at the next Pace Time of a flow that the sweep visits and does not rebase: D is less than 65536 ticks behind, and
255 ticks pass before the next visit. -/
theorem FlowRecord.InWindow.visited {r : FlowRecord} {now : Stamp} {d : Nat} (h : r.InWindow now d)
    (hs : ¬ r.stale (now + 1) = true) : r.InWindow (now + 1) 255 := by
  rw [FlowRecord.stale_iff] at hs
  have h1 := toNat_succ_sub now r.due
  have h2 := toNat_sub_swap r.due (now + 1)
  have h3 := toNat_sub_swap r.due now
  have hlt := (now - r.due).isLt
  unfold FlowRecord.InWindow at *
  rcases h with h | h <;> omega

/-- A flow that the sweep rebases does not wait: its D is behind now, so its D − T is not ahead. -/
theorem FlowRecord.Scheduled.not_waiting_of_stale {r : FlowRecord} {now : Stamp} {d : Nat} (h : r.Scheduled now d)
    (hl : r.lifecycle ≠ .unused) (hs : r.stale (now + 1) = true) : r.sched ≠ .waiting := by
  intro hw
  obtain ⟨-, hx, ha⟩ := h.filed hw
  rw [FlowRecord.stale_iff] at hs
  rw [hx, after_iff, FlowRecord.eligibleTime, toNat_eligibleTime] at ha
  have h1 := toNat_succ_sub now r.due
  have h3 := toNat_sub_swap r.due now
  have hT := r.active.tolerance.isLt
  have hlt := (now - r.due).isLt
  rcases h.window hl with h | h <;> omega

/-- A rebased flow that is not WAITING is as the law asks: D is now, and D − T is T ticks behind. -/
theorem FlowRecord.Scheduled.rebased {r : FlowRecord} {now now' : Stamp} {d : Nat} (h : r.Scheduled now d)
    (hw : r.sched ≠ .waiting) (d' : Nat) : ({ r with due := now' } : FlowRecord).Scheduled now' d' := by
  refine ⟨h.unused, h.stands, fun e => absurd e hw, fun _ _ => ?_, fun _ => FlowRecord.inWindow_of_due_now rfl d'⟩
  rw [notBefore_iff, FlowRecord.eligibleTime, toNat_eligibleTime]
  have hT := r.active.tolerance.isLt
  rw [BitVec.sub_self, BitVec.toNat_zero]
  omega

theorem FlowRecord.serviced_of_not_waiting {r : FlowRecord} {now : Stamp} (h : r.sched ≠ .waiting) : r.serviced now = r :=
  if_neg fun e => h e.1

/-- A tick whose sweep visits the flow. -/
theorem FlowRecord.Scheduled.visited {r : FlowRecord} {now : Stamp} {d : Nat} (h : r.Scheduled now d) :
    ((r.serviced (now + 1)).swept (now + 1)).Scheduled (now + 1) 255 := by
  obtain ⟨hl, -, -, -, -, hdue, -⟩ := r.serviced_frame (now + 1)
  have hst : (r.serviced (now + 1)).stale (now + 1) = r.stale (now + 1) := by
    rw [FlowRecord.stale, FlowRecord.stale, hdue]
  unfold FlowRecord.swept
  rw [hl, hst]
  split_ifs with hc
  · rw [Bool.and_eq_true, decide_eq_true_eq] at hc
    have hw := h.not_waiting_of_stale hc.1 hc.2
    rw [FlowRecord.serviced_of_not_waiting hw]
    exact h.rebased hw 255
  · refine h.serviced fun hu => (h.window hu).visited fun hs => hc ?_
    rw [Bool.and_eq_true, decide_eq_true_eq]
    exact ⟨hu, hs⟩

/-! ### Where a tick leaves the flows -/

theorem count_filter_eq (l : List FlowNo) (b : FlowNo → Bool) (f : FlowNo) :
    (l.filter b).count f = if b f = true then l.count f else 0 := by
  split_ifs with h
  · exact List.count_filter h
  · exact List.count_eq_zero.mpr fun hm => h (List.mem_filter.mp hm).2

theorem State.makeReady_readyList (s : State) (f : FlowNo) (p : Port) (q : Priority) :
    (s.makeReady f).readyList p q =
      s.readyList p q ++ if (s.flow f).egressPort = p ∧ (s.flow f).priority = q then [f] else [] := by
  show (s.setReadyList _ _ _).readyList p q = _
  rw [State.readyList_setReadyList]
  by_cases h : (s.flow f).egressPort = p ∧ (s.flow f).priority = q
  · rw [if_pos ⟨h.1.symm, h.2.symm⟩, if_pos h, h.1, h.2]
  · rw [if_neg fun e => h ⟨e.1.symm, e.2.symm⟩, if_neg h, List.append_nil]

/-- Each flow of a run joins the ready list of its port and priority. -/
theorem State.foldl_makeReady_count (l : List FlowNo) (f : FlowNo) (p : Port) (q : Priority) : ∀ s : State,
    ((l.foldl State.makeReady s).readyList p q).count f =
      (s.readyList p q).count f + if (s.flow f).egressPort = p ∧ (s.flow f).priority = q then l.count f else 0 := by
  induction l with
  | nil => simp
  | cons g l ih =>
    intro s
    rw [List.foldl_cons, ih, State.makeReady_readyList, State.makeReady_flow]
    by_cases hf : f = g
    · subst hf
      rw [if_pos rfl, count_joined_self, List.count_cons_self]
      dsimp only
      split_ifs <;> omega
    · rw [if_neg hf, count_joined_other hf, List.count_cons_of_ne (Ne.symm hf)]

theorem State.dueFlows_count {s : State} {f : FlowNo} (h : s.Placed f) :
    s.dueFlows.count f = if (s.flow f).sched = .waiting ∧ (s.flow f).eligible = s.now then 1 else 0 := by
  rw [State.dueFlows, count_filter_eq, h.waiting]
  simp only [State.isDue, decide_eq_true_eq]
  by_cases hx : (s.flow f).eligible = s.now <;> simp [hx]

/-- A flow that stands where the law asks is serviced exactly when it waits for the Pace Time of the service. -/
theorem State.Placed.serviceCalendar_flow {s : State} {f : FlowNo} (h : s.Placed f) :
    s.serviceCalendar.flow f = (s.flow f).serviced s.now := by
  have hc := State.dueFlows_count h
  rw [State.serviceCalendar_flow, FlowRecord.serviced]
  by_cases hd : (s.flow f).sched = .waiting ∧ (s.flow f).eligible = s.now
  · rw [if_pos hd] at hc
    rw [if_pos hd, if_pos (List.count_pos_iff.mp (by omega))]
  · rw [if_neg hd] at hc
    rw [if_neg hd, if_neg (List.count_eq_zero.mp hc)]

/-- A calendar service takes out of its slot the flows whose X is now. -/
theorem State.serviceCalendar_count (s : State) (f : FlowNo) (i : Fin 1024) : (s.serviceCalendar.calendarSlot i).count f =
    if (s.flow f).eligible = s.now ∧ i = slotIndex s.now then 0 else (s.calendarSlot i).count f := by
  have hc : s.serviceCalendar.calendarSlot i = (s.setCalendarSlot (slotIndex s.now)
      ((s.calendarSlot (slotIndex s.now)).filter fun g => !s.isDue g)).calendarSlot i := by
    simp [State.calendarSlot, State.serviceCalendar, State.foldl_makeReady_frame]
  rw [hc, State.calendarSlot_setCalendarSlot]
  by_cases hi : i = slotIndex s.now
  · rw [if_pos hi, count_filter_eq, hi]
    by_cases hx : (s.flow f).eligible = s.now <;> simp [State.isDue, hx]
  · simp [hi]

theorem State.Placed.serviceCalendar {s : State} {f : FlowNo} (h : s.Placed f) : s.serviceCalendar.Placed f := by
  have hflow := h.serviceCalendar_flow
  refine ⟨fun p q => ?_, fun i => ?_⟩
  · have hc : (s.serviceCalendar.readyList p q).count f = (s.readyList p q).count f +
        if (s.flow f).egressPort = p ∧ (s.flow f).priority = q then s.dueFlows.count f else 0 :=
      State.foldl_makeReady_count s.dueFlows f p q _
    rw [hc, h.ready, State.dueFlows_count h, hflow, FlowRecord.serviced]
    by_cases hd : (s.flow f).sched = .waiting ∧ (s.flow f).eligible = s.now
    · simp [hd]
    · simp [hd]
  · rw [State.serviceCalendar_count, h.waiting, hflow, FlowRecord.serviced]
    by_cases hx : (s.flow f).eligible = s.now
    · by_cases hw : (s.flow f).sched = .waiting
      · simp [hx, hw, eq_comm]
      · simp [hx, hw]
    · simp [hx]

theorem State.Placed.sweepVisit {s : State} {f : FlowNo} (h : s.Placed f) (g : FlowNo) : (s.sweepVisit g).Placed f := by
  have hr : ∀ p q, (s.sweepVisit g).readyList p q = s.readyList p q := fun p q => by simp [State.readyList]
  have hc : ∀ i, (s.sweepVisit g).calendarSlot i = s.calendarSlot i := fun i => by simp [State.calendarSlot]
  obtain ⟨-, sp, sq, ss, sx⟩ := (s.flow g).swept_frame s.now
  refine ⟨fun p q => ?_, fun i => ?_⟩ <;> rw [State.sweepVisit_flow]
  · rw [hr, h.ready]
    by_cases hg : f = g
    · rw [if_pos hg, ss, sp, sq, hg]
    · rw [if_neg hg]
  · rw [hc, h.waiting]
    by_cases hg : f = g
    · rw [if_pos hg, ss, sx, hg]
    · rw [if_neg hg]

theorem State.serviceCalendar_now (s : State) : s.serviceCalendar.now = s.now := by
  simp [State.now]

/-- The sweep distance falls by 1 at a tick that does not visit the flow. -/
theorem State.sweepDistance_tick {s : State} {f : FlowNo} (h : f ≠ s.time.sweep) :
    ∃ d, s.sweepDistance f = d + 1 ∧ (f - (s.time.sweep + 1)).val = d ∧ d ≤ 254 := by
  unfold State.sweepDistance
  generalize s.time.sweep = w at *
  have hne : f.val ≠ w.val := fun e => h (Fin.ext e)
  have hf := f.isLt
  have hw := w.isLt
  simp only [Fin.val_sub, Fin.val_add]
  have one : (1 : FlowNo).val = 1 := rfl
  rw [one]
  exact ⟨(256 - w.val + f.val) % 256 - 1, by omega, by omega, by omega⟩

/-- The sweep's next visit to the flow it has just visited is 256 ticks away. -/
theorem sweepDistance_visited (w : FlowNo) : (w - (w + 1)).val = 255 := by
  have h : w - (w + 1) = -1 := sub_add_cancel_left w 1
  rw [h]
  rfl

/-- A tick keeps the law. -/
theorem SchedulingLaw.tick {s : State} (h : SchedulingLaw s) : SchedulingLaw s.tick := by
  unfold State.tick
  split_ifs
  · exact h
  let u := s.withTime s.time.tick
  have hu : ∀ f, u.Placed f := fun f => ⟨(h.placed f).ready, (h.placed f).waiting⟩
  refine (schedulingLaw_iff _).mpr fun f => ⟨?_, (hu f).serviceCalendar.sweepVisit s.time.sweep⟩
  have hnow : (u.serviceCalendar.sweepVisit s.time.sweep).now = s.now + 1 := by simp [u, State.now, TimeBase.tick]
  have hdist : (u.serviceCalendar.sweepVisit s.time.sweep).sweepDistance f = (f - (s.time.sweep + 1)).val := by
    simp [u, State.sweepDistance, TimeBase.tick]
  have hflow : (u.serviceCalendar.flow f) = (s.flow f).serviced (s.now + 1) := (hu f).serviceCalendar_flow
  rw [hnow, hdist, State.sweepVisit_flow]
  by_cases hf : f = s.time.sweep
  · rw [if_pos hf, ← hf, hflow, State.serviceCalendar_now, sweepDistance_visited]
    exact (h.scheduled f).visited
  · obtain ⟨d, hd, hd', hle⟩ := State.sweepDistance_tick hf
    rw [if_neg hf, hflow, hd']
    have hs := h.scheduled f
    rw [hd] at hs
    exact hs.serviced fun hl => (hs.window hl).succ hle

/-! ## Every step keeps the law of scheduling -/

/-- The law of scheduling is kept by each effect of a command, when the flows that the Active bank names are OPEN or SUSPENDED. -/
theorem schedulingLaw_keptByEffects : KeptByEffects (fun r => r.lifecycle.live = true) SchedulingLaw where
  same := SchedulingLaw.same
  reset := FlowsReset.schedulingLaw
  tick := SchedulingLaw.tick
  arrives h hl := h.admitCell hl _
  depart h hl := h.depart hl
  openFlow h hu _ := h.openFlow hu _ _ _ _ _
  setContract h hl _ := h.setContract hl
  commit h hl := h.commit hl
  suspend h hl := h.suspend hl
  resumeKeep h hl := h.resumeKeep hl
  resumeRestart h hl := h.resumeRestart hl
  startDrain h hl _ := h.startDrain hl
  closeEmpty h _ hq := h.closeEmpty hq
  flush h := h.flush _

/-- Settles O60: each effect of a command keeps the law, the map law making every arrival one to a live flow. -/
theorem schedulingLawIsKept : Obligations.SchedulingLawIsKept := fun _ _ hmap h e =>
  schedulingLaw_keptByEffects.step h (fun p ch f he => (hmap.entries p ch f he).1) e

/-- Settles O24: what a slot sends is the head flow of a ready list, which the law says is READY and on time. -/
theorem noPaceDepartureIsEarly : Obligations.NoPaceDepartureIsEarly := by
  intro s p f h hd hm
  obtain ⟨-, q, hc⟩ := (s.departing_eq_some p f).mp hd
  obtain ⟨l, hl⟩ := State.slotChoice_departure hc
  exact (notBefore_iff _ _).mp (h.onTime f (h.ready_of_head hl).1 hm)

end Sys2Proof.Machine

namespace Sys2Proof.Machine

/-! ## The judgement and the due-time update -/

theorem FlowRecord.judge_nonconforming_iff (r : FlowRecord) (t : Stamp) :
    r.judge t = .nonconforming ↔ r.active.mode.polices = true ∧ ¬ notBefore t r.eligibleTime = true := by
  unfold FlowRecord.judge
  split_ifs <;> simp_all

theorem FlowRecord.judge_unjudged {r : FlowRecord} (h : r.active.mode.polices = false) (t : Stamp) : r.judge t = .unjudged := by
  simp [FlowRecord.judge, h]

/-- The increment at position k, as a number of ticks modulo 2^24 (R3). -/
theorem Contract.ofNat_increment (c : Contract) (k : Nat) : BitVec.ofNat 24 (c.increment k) =
    if k < c.extension then c.period.setWidth 24 + 1 else c.period.setWidth 24 := by
  have hp := c.period.isLt
  unfold Contract.increment
  split_ifs
  · refine BitVec.eq_of_toNat_eq ?_
    have one : (1 : Stamp).toNat = 1 := rfl
    simp only [BitVec.toNat_ofNat, BitVec.toNat_add, BitVec.toNat_setWidth, one]
    omega
  · exact BitVec.eq_of_toNat_eq (by simp)

/-- Settles O13: the judgement compares t with D − T in the modular order, and the update is R3's. -/
theorem judgementAndDueTimeUpdate : Obligations.JudgementAndDueTimeUpdate := by
  refine ⟨fun r t => ⟨fun hm => ?_, fun hm => FlowRecord.judge_unjudged ?_ t⟩, fun r t => ?_⟩
  · have hp : r.active.mode.polices = true := by rcases hm with hm | hm <;> rw [hm] <;> rfl
    rw [FlowRecord.judge_conforming_iff, FlowRecord.judge_nonconforming_iff, notBefore_iff, hp, Nat.not_lt]
    exact ⟨⟨fun h => h.2, fun h => ⟨rfl, h⟩⟩, ⟨fun h => h.2, fun h => ⟨rfl, h⟩⟩⟩
  · rcases hm with hm | hm <;> rw [hm] <;> rfl
  · rw [FlowRecord.dueUpdate, maxStamp_eq, Contract.ofNat_increment]
    rfl

/-! ## The promotion of SET_CONTRACT and COMMIT_CONTRACT -/

/-- What a removal takes out of the lists depends on the flow's scheduling state, its lists and its X alone. -/
theorem State.withouts_setFlow (s : State) (f : FlowNo) {r : FlowRecord} (hs : r.sched = (s.flow f).sched)
    (hp : r.egressPort = (s.flow f).egressPort) (hq : r.priority = (s.flow f).priority) (hx : r.eligible = (s.flow f).eligible) :
    (∀ p q, (s.setFlow f r).readyWithout f p q = s.readyWithout f p q) ∧
      ∀ i, (s.setFlow f r).slotWithout f i = s.slotWithout f i := by
  refine ⟨fun p q => ?_, fun i => ?_⟩
  · rw [State.readyWithout, State.flow_setFlow_self, hs, hp, hq]
    rfl
  · rw [State.slotWithout, State.flow_setFlow_self, hs, hx]
    rfl

/-- Settles O19: the promoted record is rescheduled by R17, and nothing but the record and the flow's place changes. -/
theorem promotionReplacesAndReschedules : Obligations.PromotionReplacesAndReschedules := by
  intro s f c hc hr r final kept
  let promoted : FlowRecord := { r with active := c, pending := none, cyclePos := 0 }
  have hpromote : (s.flow f).promote = promoted := FlowRecord.promote_of_pending hc
  have he : s.promoteNow f = (s.setFlow f promoted).reschedule f := by rw [State.promoteNow, hpromote]
  have hflow : (s.setFlow f promoted).flow f = promoted := s.flow_setFlow_self f promoted
  have hstands : ((s.setFlow f promoted).flow f).StandsRight := by
    rw [hflow]
    exact hr
  obtain ⟨hflows, hstay, hmove⟩ := (s.setFlow f promoted).reschedule_does f hstands
  rw [← he, hflow] at hflows hstay hmove
  obtain ⟨hwr, hww⟩ := s.withouts_setFlow f (r := promoted) rfl rfl rfl rfl
  refine ⟨_, rfl, ?_, ?_, hstay, fun hk => ?_⟩
  · apply State.eq_of_fields <;> simp
  · rw [hflows]
    exact State.flows_set_set s.flows f promoted final
  · obtain ⟨hready, hwaiting⟩ := hmove hk
    exact ⟨fun p q => by rw [hready, hwr], fun i => by rw [hwaiting, hww]⟩

/-! ## SET_CONTRACT and COMMIT_CONTRACT -/

/-- A request row whose entry, in any state, answers a state that keeps the Management Engine answers in a taking that state with
the response queued. -/
theorem takeRequest_executes {s u : State} {code : Byte} {r : Payload} {rest : List Payload} {run : Payload → State → Reply}
    {st : Status} {data : List Byte} (h : Executes s code r rest)
    (hrun : run r (s.dequeue rest) = { state := u.withMgmt { s.mgmt with requests := rest }, status := st, data := data }) :
    takeRequest code run s = .next { u with mgmt := s.mgmt.answered r rest st data } := by
  have hm : (decide (requestCode r = code)) = true := decide_eq_true h.code
  rw [takeRequest, take_executes s _ run r rest h.head h.room hm (.inr h.tag), hrun, State.conclude_eq s _ r rest st data rfl]
  rfl

theorem checked_eq {α : Type} {o : Option α} {st : Status} {s : State} {k : α → Reply} {a : α} (h : o = some a) :
    checked o st s k = k a := by
  subst h
  rfl

theorem withFlow_eq {r : Payload} {n : Nat} {s : State} {k : FlowNo → Reply} {f : FlowNo} (h : flowOf (param2 r n) = some f) :
    withFlow r n s k = k f :=
  checked_eq h

theorem require_eq {c : Bool} {st : Status} {s : State} {k : Reply} (h : c = true) : require c st s k = k :=
  if_pos h

theorem Lifecycle.live_iff (l : Lifecycle) : l.live = true ↔ l = .opened ∨ l = .suspended := by
  cases l <;> simp [Lifecycle.live]

/-- SET_CONTRACT on a live flow, its contract in range, comes to the effect of R14. -/
theorem runSetContract_eq {s : State} {r : Payload} {f : FlowNo} {c : Contract} (hf : flowOf (param2 r 0) = some f)
    (hl : (s.flow f).lifecycle.live = true) (hc : contractOf r 2 = some c) : runSetContract r s = s.setContract f c := by
  rw [runSetContract, withFlow_eq hf, require_eq hl, checked_eq hc]

theorem runCommitContract_eq {s : State} {r : Payload} {f : FlowNo} (hf : flowOf (param2 r 0) = some f)
    (hl : (s.flow f).lifecycle.live = true) (hp : (s.flow f).pending ≠ none) :
    runCommitContract r s = okReply (s.promoteNow f) [] := by
  rw [runCommitContract, withFlow_eq hf, require_eq hl, require_eq (Option.isSome_iff_ne_none.mpr hp)]

theorem State.setContract_of_zero {s : State} {f : FlowNo} (c : Contract) (h : (s.flow f).cyclePos = 0) :
    s.setContract f c = okReply ((s.setFlow f { s.flow f with pending := some c }).promoteNow f) [0] :=
  if_pos h

theorem State.setContract_of_none {s : State} {f : FlowNo} (c : Contract) (h : (s.flow f).cyclePos ≠ 0)
    (hp : (s.flow f).pending = none) :
    s.setContract f c = acceptReply (s.setFlow f { s.flow f with pending := some c }) [1] := by
  simp [State.setContract, h, hp]

theorem State.setContract_of_pending {s : State} {f : FlowNo} (c : Contract) (h : (s.flow f).cyclePos ≠ 0)
    (hp : (s.flow f).pending ≠ none) :
    s.setContract f c = acceptReply (s.setFlow f { s.flow f with pending := some c }) [2] := by
  simp [State.setContract, h, Option.isSome_iff_ne_none, hp]

/-- Settles O34: the checks of R14, R146 and R147 pass, so each request comes to its effect, which does not look at the
Management Engine. -/
theorem contractsAreSetAndCommitted : Obligations.ContractsAreSetAndCommitted := by
  intro s r rest f hf hl
  have hlive : ((s.dequeue rest).flow f).lifecycle.live = true := (Lifecycle.live_iff _).mpr hl
  refine ⟨fun c h hc => ⟨fun hk => ?_, fun hk hp => ?_, fun hk hp => ?_⟩, fun h hp => ?_⟩
  · refine takeRequest_executes h ?_
    rw [runSetContract_eq hf hlive hc, State.setContract_of_zero (s := s.dequeue rest) c hk]
    exact congrArg (fun u => okReply u [0]) (State.promoteNow_withMgmt (s.setFlow f { s.flow f with pending := some c }) _ f)
  · refine takeRequest_executes h ?_
    rw [runSetContract_eq hf hlive hc, State.setContract_of_none (s := s.dequeue rest) c hk hp]
    rfl
  · refine takeRequest_executes h ?_
    rw [runSetContract_eq hf hlive hc, State.setContract_of_pending (s := s.dequeue rest) c hk hp]
    rfl
  · refine takeRequest_executes h ?_
    rw [runCommitContract_eq hf hlive hp]
    exact congrArg (fun u => okReply u []) (State.promoteNow_withMgmt s _ f)

/-! ## The promotion at a cycle boundary -/

/-- What a cycle boundary leaves of a flow: contract `c` active, none pending, k 0, and the due time `d` of the update (R16, R18). -/
structure FlowRecord.PromotedTo (r : FlowRecord) (c : Contract) (d : Stamp) : Prop where
  active : r.active = c
  pending : r.pending = none
  position : r.cyclePos = 0
  due : r.due = d

theorem FlowRecord.PromotedTo.filed {r : FlowRecord} {c : Contract} {d : Stamp} (h : r.PromotedTo c d) (now : Stamp) :
    (r.filed now).PromotedTo c d :=
  ⟨h.active, h.pending, h.position, h.due⟩

/-- The update at a cycle boundary, of a record whose queue alone has changed. -/
theorem FlowRecord.updated_promotedTo {r : FlowRecord} {c : Contract} (hk : (r.cyclePos + 1) % r.active.cycle = 0)
    (hp : r.pending = some c) (now : Stamp) (queue : List SlotNo) :
    (({ r with queue := queue } : FlowRecord).updated now).PromotedTo c (r.dueUpdate now).due := by
  rw [FlowRecord.updated_of_pending (r := { r with queue := queue }) hk hp]
  exact ⟨rfl, rfl, rfl, rfl⟩

theorem State.afterDeparture_promotedTo {w : State} {f : FlowNo} {c : Contract} {d : Stamp} (h : (w.flow f).PromotedTo c d) :
    ((w.afterDeparture f).flow f).PromotedTo c d := by
  unfold State.afterDeparture
  split_ifs
  · rw [(sameFlows_finishDrain w f).flow_of_setFlow]
    exact ⟨h.active, h.pending, h.position, h.due⟩
  · rw [State.place_flow, if_pos rfl]
    exact h.filed w.now

theorem State.depart_promotedTo {s : State} {p : Port} {q : Priority} {f : FlowNo} {c : Contract} {slot : SlotNo}
    {rest : List SlotNo} (hq : (s.flow f).queue = slot :: rest) (hm : (s.flow f).active.mode = .pace)
    (hk : ((s.flow f).cyclePos + 1) % (s.flow f).active.cycle = 0) (hp : (s.flow f).pending = some c) :
    ((s.depart p q f).flow f).PromotedTo c ((s.flow f).dueUpdate s.now).due := by
  obtain ⟨v, hd, hv, hnow⟩ := State.depart_eq (p := p) (q := q) hq
  rw [hd]
  refine State.afterDeparture_promotedTo ?_
  rw [(sameFlows_departureArithmetic v f).flow_of_setFlow, hv, if_pos hm, hnow]
  exact FlowRecord.updated_promotedTo hk hp s.now rest

/-- An enqueue of a CONFORMING cell at a cycle boundary. -/
theorem State.enqueue_promotedTo {s : State} {f : FlowNo} {d : Contract} (hfree : s.buffer.freeList ≠ [])
    (hj : (s.flow f).judge s.now = .conforming) (hk : ((s.flow f).cyclePos + 1) % (s.flow f).active.cycle = 0)
    (hp : (s.flow f).pending = some d) (c : StoredCell) :
    ((s.enqueue f c).flow f).PromotedTo d ((s.flow f).dueUpdate s.now).due := by
  obtain ⟨slot, v, ev, e⟩ := State.enqueue_settles hfree f c
  obtain ⟨u, eu, es⟩ := v.settle_eq f (s.flow f)
  have hnow : v.now = s.now := ev.now
  have hu : (u.flow f).PromotedTo d ((s.flow f).dueUpdate s.now).due := by
    rw [eu.flow_of_setFlow, hnow, if_pos hj, ev.flow_of_setFlow]
    exact FlowRecord.updated_promotedTo hk hp s.now _
  rw [e.flow, es]
  split_ifs
  · rw [State.place_flow, if_pos rfl]
    exact hu.filed u.now
  · rw [State.reschedule_flow, if_pos rfl]
    exact hu.filed u.now
  · exact hu

theorem State.admission_countPort (s : State) (p : Port) (g : PortCounters → PortCounters) (f : FlowNo) (c : StoredCell) :
    (s.countPort p g).admission f c = s.admission f c := by
  cases p <;> rfl

/-- The arrival whose enqueue makes the update of a cycle boundary. -/
theorem State.arrive_promotedTo {s : State} {p : Port} {cell : List Byte} {f : FlowNo} {c : StoredCell} {d : Contract}
    (h : HandsOver s p cell f c) (ha : s.admission f c = .queued) (hj : (s.flow f).judge s.now = .conforming)
    (hk : ((s.flow f).cyclePos + 1) % (s.flow f).active.cycle = 0) (hp : (s.flow f).pending = some d) :
    ((s.arrive p cell).flow f).PromotedTo d ((s.flow f).dueUpdate s.now).due := by
  let u := s.countPort p PortCounters.addReceived
  have hu := sameFlows_countPort s p PortCounters.addReceived
  have hnow : u.now = s.now := hu.now
  have hqueued : u.admission f c = .queued := (s.admission_countPort p _ f c).trans ha
  have he : u.admitCell f c = u.enqueue f c := by rw [State.admitCell, hqueued]
  rw [State.arrive_eq_deliver h, State.deliver, (sameFlows_capture _ _ _ _).flow, he, ← hu.flow f, ← hnow]
  rw [← hu.flow f] at hj hk hp
  exact State.enqueue_promotedTo (State.freeList_of_queued hqueued) (hnow.symm ▸ hj) hk hp c

theorem execCycleBoundaryPromotion_of_promotes {s : State} {e : UpdateEvent} (h : s.promotesAt e = true) :
    execCycleBoundaryPromotion e s = .next (s.updateEvent e) := by
  rw [execCycleBoundaryPromotion, if_pos h]

theorem execCycleBoundaryPromotion_of_not {s : State} {e : UpdateEvent} (h : ¬ s.promotesAt e = true) :
    execCycleBoundaryPromotion e s = .next s := by
  rw [execCycleBoundaryPromotion, if_neg h]

theorem State.slotPromotes_of_boundary {s : State} {p : Port} {q : Priority} {f : FlowNo} (hu : (s.port p).link = .up)
    (hc : s.slotChoice p = .departure q f) (hq : (s.flow f).queue ≠ []) (hm : (s.flow f).active.mode = .pace)
    (hb : (s.flow f).atBoundary = true) : s.slotPromotes p = true :=
  (s.slotPromotes_iff p).mpr ⟨f, (s.departing_eq_some p f).mpr ⟨hu, q, hc⟩, hq, hm, hb⟩

theorem State.not_slotPromotes_of_down {s : State} {p : Port} (hd : (s.port p).link = .down) : ¬ s.slotPromotes p = true := by
  intro h
  obtain ⟨f, hf, -⟩ := (s.slotPromotes_iff p).mp h
  exact nomatch hd.symm.trans ((s.departing_eq_some p f).mp hf).1

/-- A slot with no departure, or one that makes no update of a cycle boundary, promotes nothing (R12, R18). -/
theorem State.not_slotPromotes {s : State} {p : Port}
    (hn : ∀ q f, s.slotChoice p = .departure q f → (s.flow f).queue = [] ∨ (s.flow f).active.mode ≠ .pace ∨
      (s.flow f).pending = none ∨ ((s.flow f).cyclePos + 1) % (s.flow f).active.cycle ≠ 0) : ¬ s.slotPromotes p = true := by
  intro h
  obtain ⟨f, hf, hq, hm, hb⟩ := (s.slotPromotes_iff p).mp h
  obtain ⟨-, q, hc⟩ := (s.departing_eq_some p f).mp hf
  obtain ⟨hk, hp⟩ := (s.flow f).atBoundary_iff.mp hb
  rcases hn q f hc with e | e | e | e
  · exact hq e
  · exact e hm
  · exact hp e
  · exact e hk

theorem State.arrivalPromotes_of_boundary {s : State} {p : Port} {cell : List Byte} {f : FlowNo} {c : StoredCell}
    (h : HandsOver s p cell f c) (ha : s.admission f c = .queued) (hj : (s.flow f).judge s.now = .conforming)
    (hb : (s.flow f).atBoundary = true) : s.arrivalPromotes p cell = true :=
  (s.arrivalPromotes_iff p cell).mpr ⟨f, c, h, ha, hj, hb⟩

theorem State.not_arrivalPromotes_of_down {s : State} {p : Port} {cell : List Byte} (hd : (s.port p).link = .down) :
    ¬ s.arrivalPromotes p cell = true := by
  intro h
  obtain ⟨f, c, ho, -⟩ := (s.arrivalPromotes_iff p cell).mp h
  exact nomatch hd.symm.trans ho.up

/-- An arrival that hands nothing over, or that makes no update of a cycle boundary, promotes nothing (R7, R18). -/
theorem State.not_arrivalPromotes {s : State} {p : Port} {cell : List Byte}
    (hn : ∀ f c, HandsOver s p cell f c → s.admission f c ≠ .queued ∨ (s.flow f).judge s.now ≠ .conforming ∨
      (s.flow f).pending = none ∨ ((s.flow f).cyclePos + 1) % (s.flow f).active.cycle ≠ 0) :
    ¬ s.arrivalPromotes p cell = true := by
  intro h
  obtain ⟨f, c, ho, ha, hj, hb⟩ := (s.arrivalPromotes_iff p cell).mp h
  obtain ⟨hk, hp⟩ := (s.flow f).atBoundary_iff.mp hb
  rcases hn f c ho with e | e | e | e
  · exact e ha
  · exact e hj
  · exact hp e
  · exact e hk

/-- Settles O18: the event takes place exactly where the slot or the arrival promotes, and is then that slot or arrival. -/
theorem cycleBoundaryPromotes : Obligations.CycleBoundaryPromotes := by
  refine ⟨fun s p => ⟨fun q f c slot rest hu hc hq hm hk hp => ?_, fun hd => ?_, fun hn => ?_⟩,
    fun s p cell => ⟨fun f c d h hadm hj hk hp => ?_, fun hd => ?_, fun hn => ?_⟩⟩
  · have hb : (s.flow f).atBoundary = true := (s.flow f).atBoundary_iff.mpr ⟨hk, by simp [hp]⟩
    have he := execCycleBoundaryPromotion_of_promotes (e := .slot p)
      (State.slotPromotes_of_boundary hu hc (by simp [hq]) hm hb)
    obtain ⟨hactive, hpending, hposition, hdue⟩ := State.depart_promotedTo (p := p) (q := q) hq hm hk hp
    rw [← State.egress_eq_depart hu hc] at hactive hpending hposition hdue
    exact ⟨he, _, he, hactive, hpending, hposition, hdue⟩
  · exact execCycleBoundaryPromotion_of_not (State.not_slotPromotes_of_down hd)
  · exact execCycleBoundaryPromotion_of_not (State.not_slotPromotes hn)
  · have hb : (s.flow f).atBoundary = true := (s.flow f).atBoundary_iff.mpr ⟨hk, by simp [hp]⟩
    have he := execCycleBoundaryPromotion_of_promotes (e := .arrival p cell) (State.arrivalPromotes_of_boundary h hadm hj hb)
    obtain ⟨hactive, hpending, hposition, hdue⟩ := State.arrive_promotedTo h hadm hj hk hp
    exact ⟨he, _, he, hactive, hpending, hposition, hdue⟩
  · exact execCycleBoundaryPromotion_of_not (State.not_arrivalPromotes_of_down hd)
  · exact execCycleBoundaryPromotion_of_not (State.not_arrivalPromotes hn)

/-! ## The laws right after reset -/

theorem flowsReset_reset : FlowsReset State.reset := ⟨rfl, rfl, rfl⟩

theorem linkLaw_reset : LinkLaw State.reset := fun p => by
  cases p <;> exact ⟨⟨fun h => (nomatch h), fun h => (nomatch h.1)⟩, fun _ => rfl⟩

theorem noticeLaw_reset : NoticeLaw State.reset :=
  ⟨by decide, by decide, by decide, fun _ h => (nomatch h), fun _ h => (nomatch h), by decide⟩

theorem probeLaw_reset : ProbeLaw State.reset :=
  ⟨by decide, by decide, fun h => (nomatch h), fun h => (nomatch h), fun h => (nomatch h)⟩

/-- A bank with every entry NONE names no flow. -/
theorem Bank.none_naming (f : FlowNo) : Bank.none.naming f = 0 := by
  have hz : (Vector.replicate 1023 (Option.none : Option FlowNo)).toList.count (some f) = 0 := by
    rw [Vector.toList_replicate, List.count_eq_zero]
    exact fun h => nomatch List.eq_of_mem_replicate h
  exact congrArg₂ (· + ·) hz hz

theorem Bank.none_entry (p : Port) (ch : UserChannel) : Bank.none.entry p ch = Option.none := by
  cases p <;> simp [Bank.entry, Bank.entries, Bank.none, Vector.get_eq_getElem]

theorem mapLaw_reset : MapLaw State.reset := by
  refine ⟨fun f => ?_, fun p ch f h => ?_⟩
  · have hr : State.reset.refCount f = 0 := (Vector.get_eq_getElem _ f).trans (Vector.getElem_replicate _)
    exact hr.trans (Bank.none_naming f).symm
  · exact nomatch (Bank.none_entry p ch).symm.trans h

theorem poolLaw_reset : PoolLaw State.reset := by
  have hq : State.reset.flows.toList.flatMap FlowRecord.queue = [] := by
    rw [flowsReset_reset.flows, Vector.toList_replicate, List.flatMap_eq_nil_iff]
    intro r hr
    rw [List.eq_of_mem_replicate hr]
    rfl
  have hfree : State.reset.buffer.freeList = List.finRange 1024 := by simp only [State.reset, CellBuffer.reset]
  have ho : State.reset.buffer.occupancy = 0 := by simp [CellBuffer.occupancy, hfree, Config.cellSlots]
  refine ⟨?_, fun f => ?_, fun f _ => ?_, ?_⟩
  · rw [hq, hfree, List.append_nil]
  · rw [flowsReset_reset.flow]
    decide
  · rw [flowsReset_reset.flow]
    rfl
  · rw [ho]
    decide

theorem watermarkLaw_reset : WatermarkLaw State.reset := by
  have hfree : State.reset.buffer.freeList = List.finRange 1024 := by simp only [State.reset, CellBuffer.reset]
  have ho : State.reset.buffer.occupancy = 0 := by simp [CellBuffer.occupancy, hfree, Config.cellSlots]
  refine ⟨by decide, by decide, by decide, by decide, fun l => ⟨fun _ => ?_, fun h => ?_⟩, fun h => (nomatch h),
    fun h => (nomatch h)⟩
  · rw [ho]
    cases l <;> decide
  · cases l <;> exact nomatch h

/-- Settles O53: the laws of the flows hold because every flow is as reset, the others of the reset values themselves. -/
theorem lawsHoldAtReset : Obligations.LawsHoldAtReset :=
  ⟨⟨by decide, by decide⟩, fun _ h => (nomatch h), linkLaw_reset, ⟨by decide, by decide, by decide⟩, noticeLaw_reset,
    probeLaw_reset, mapLaw_reset, flowsReset_reset.contractLaw, poolLaw_reset, watermarkLaw_reset,
    flowsReset_reset.schedulingLaw⟩

end Sys2Proof.Machine

namespace Sys2Proof.Machine

/-! ## What both resets leave -/

/-- What either reset leaves of the flows, the map, the buffer, the counters, the notices and the probe (R24, R53, R70, R177, R183,
R185). -/
structure DatapathReset (t : State) : Prop where
  flows : FlowsReset t
  map : t.map = ChannelMap.reset
  freeList : t.buffer.freeList = List.finRange 1024
  peak : t.buffer.peak = 0
  clear : ∀ l, (t.buffer.level l).raised = false
  counters : t.counters = CounterBank.reset
  records : t.notices.records = []
  credit : t.notices.credit = 0
  probe : t.probe = Probe.reset

theorem datapathReset_holdReset (s : State) : DatapathReset s.holdReset :=
  ⟨⟨rfl, rfl, rfl⟩, rfl, by simp only [State.holdReset, State.reset, CellBuffer.reset], rfl, fun l => by cases l <;> rfl,
    rfl, rfl, rfl, rfl⟩

theorem datapathReset_softReset (s : State) (m : Management) : DatapathReset (s.softReset.withMgmt m) :=
  ⟨⟨rfl, rfl, rfl⟩, rfl, by simp only [State.withMgmt, State.softReset, CellBuffer.softReset, CellBuffer.reset], rfl,
    fun l => by cases l <;> rfl, rfl, rfl, rfl, rfl⟩

theorem DatapathReset.entry {t : State} (h : DatapathReset t) (p : Port) (c : UserChannel) :
    t.map.bankA.entry p c = none ∧ t.map.bankB.entry p c = none := by
  rw [h.map]
  exact ⟨Bank.none_entry p c, Bank.none_entry p c⟩

theorem DatapathReset.refCount {t : State} (h : DatapathReset t) (f : FlowNo) : t.refCount f = 0 := by
  rw [State.refCount, h.map, ChannelMap.reset, Vector.get_eq_getElem, Vector.getElem_replicate]

theorem DatapathReset.occupancy {t : State} (h : DatapathReset t) : t.buffer.occupancy = 0 := by
  simp [CellBuffer.occupancy, h.freeList, Config.cellSlots]

theorem DatapathReset.flowCounters {t : State} (h : DatapathReset t) (f : FlowNo) : t.flowCounters f = FlowCounters.zero := by
  rw [State.flowCounters, h.counters, CounterBank.reset, Vector.get_eq_getElem, Vector.getElem_replicate]

theorem DatapathReset.portCounters {t : State} (h : DatapathReset t) (p : Port) : t.portCounters p = PortCounters.zero := by
  cases p <;> rw [State.portCounters, h.counters] <;> rfl

theorem exec_resetAssertion (s : State) : exec .resetAssertion s = .next s.holdReset := rfl

/-- SOFT_RESET's effect does not look at the Management Engine. -/
theorem State.softReset_withMgmt (s : State) (m : Management) : (s.withMgmt m).softReset = s.softReset.withMgmt m := rfl

/-- SOFT_RESET clears each level and keeps its settings (R70). -/
theorem State.softReset_withMgmt_level (s : State) (m : Management) (l : Level) :
    (s.softReset.withMgmt m).buffer.level l = { s.buffer.level l with raised := false } := by
  cases l <;> rfl

theorem State.softReset_withMgmt_hysteresis (s : State) (m : Management) :
    (s.softReset.withMgmt m).buffer.hysteresis = s.buffer.hysteresis := by
  simp only [State.withMgmt, State.softReset, CellBuffer.softReset]

theorem exec_softReset {s : State} {r : Payload} {rest : List Payload} (h : Executes s 0x16 r rest) :
    exec .softReset s = .next (s.softReset.withMgmt (s.mgmt.answered r rest .ok (bytes3 s.now))) :=
  takeRequest_executes h (congrArg (fun u => okReply u (bytes3 s.now)) (State.softReset_withMgmt s _))

/-- A next state is the only one. -/
theorem eq_of_next {o : Host.Outcome State Fault Refusal} {t u : State} (h : o = .next t) (k : o = .next u) : t = u :=
  Host.Outcome.next.inj (h.symm.trans k)

/-- Settles O5: both resets leave the datapath reset; each tabled value is read off that, and the settings off the reset itself. -/
theorem bothResetsLeaveTheTabledValues : Obligations.BothResetsLeaveTheTabledValues := by
  intro s t h
  have power (e : exec .resetAssertion s = .next t) : t = s.holdReset := eq_of_next e (exec_resetAssertion s)
  have soft (e : ∃ r rest, Executes s 0x16 r rest ∧ exec .softReset s = .next t) : ∃ m, t = s.softReset.withMgmt m := by
    obtain ⟨r, rest, hx, he⟩ := e
    exact ⟨_, eq_of_next he (exec_softReset hx)⟩
  have d : DatapathReset t := by
    rcases h with h | h
    · exact power h ▸ datapathReset_holdReset s
    · obtain ⟨m, rfl⟩ := soft h
      exact datapathReset_softReset s m
  refine ⟨d.flows.flow, d.entry, by rw [d.map]; rfl, by rw [d.map]; rfl, d.refCount, .of_eq d.freeList, d.occupancy, d.peak,
    d.clear, d.flows.calendarSlot, d.flows.readyList, d.flowCounters, d.portCounters, d.records, d.credit, d.probe,
    fun e => ?_, fun e => ?_⟩
  · rw [power e]
    exact ⟨rfl, rfl, rfl, rfl⟩
  · obtain ⟨m, rfl⟩ := soft e
    exact ⟨fun l => by rw [s.softReset_withMgmt_level m l]; exact ⟨rfl, rfl⟩, s.softReset_withMgmt_hysteresis m, rfl, rfl⟩

/-! ## The end of a drain -/

/-- The departure of the last cell of a DRAINING flow closes it (R35). -/
theorem State.depart_closes {s : State} {p : Port} {q : Priority} {f : FlowNo} {slot : SlotNo} (hq : (s.flow f).queue = [slot])
    (hl : (s.flow f).lifecycle = .draining) : ((s.depart p q f).flow f).lifecycle = .unused ∧
      ((s.depart p q f).flow f).sched = .empty ∧ ((s.depart p q f).flow f).queue = [] := by
  obtain ⟨v, hd, hv, hnow⟩ := State.depart_eq (p := p) (q := q) hq
  have hw : (v.departureArithmetic f).flow f = (s.flow f).departed s.now [] := by
    rw [(sameFlows_departureArithmetic v f).flow_of_setFlow, hv, hnow]
    rfl
  obtain ⟨hlife, -, -, hqueue, -, -⟩ := (s.flow f).departed_frame s.now []
  rw [← hw] at hlife hqueue
  have he : s.depart p q f = (v.departureArithmetic f).finishDrain f := by
    rw [hd, State.afterDeparture, if_pos ⟨hqueue, hlife.trans hl⟩]
  rw [he, (sameFlows_finishDrain _ f).flow_of_setFlow]
  exact ⟨rfl, rfl, hqueue⟩

theorem execDrainCompletion_of_drains {s : State} {p : Port} (h : s.slotDrains p = true) :
    execDrainCompletion p s = .next (s.egress p) := by
  rw [execDrainCompletion, if_pos h]

theorem execDrainCompletion_of_not {s : State} {p : Port} (h : ¬ s.slotDrains p = true) : execDrainCompletion p s = .next s := by
  rw [execDrainCompletion, if_neg h]

/-- A DOWN port opens no slot, so none that ends a drain (R101). -/
theorem State.not_slotDrains_of_down {s : State} {p : Port} (hd : (s.port p).link = .down) : ¬ s.slotDrains p = true := by
  intro h
  obtain ⟨f, hf, -⟩ := (s.slotDrains_iff p).mp h
  exact nomatch hd.symm.trans ((s.departing_eq_some p f).mp hf).1

/-- A slot with no departure, or not with that of a DRAINING flow's one cell, ends no drain. -/
theorem State.not_slotDrains {s : State} {p : Port} (hn : ∀ q f, s.slotChoice p = .departure q f →
    (s.flow f).lifecycle ≠ .draining ∨ (s.flow f).queue.length ≠ 1) : ¬ s.slotDrains p = true := by
  intro h
  obtain ⟨f, hf, hl, hq⟩ := (s.slotDrains_iff p).mp h
  obtain ⟨-, q, hc⟩ := (s.departing_eq_some p f).mp hf
  exact (hn q f hc).elim (absurd hl) (absurd hq)

/-- Settles O23: the event takes place exactly where the slot ends a drain, and is then that slot. -/
theorem drainCompletionClosesTheFlow : Obligations.DrainCompletionClosesTheFlow := by
  refine fun s p => ⟨fun q f slot hu hc hq hl => ?_, fun hd => ?_, fun hn => ?_⟩
  · have hdrains : s.slotDrains p = true :=
      (s.slotDrains_iff p).mpr ⟨f, (s.departing_eq_some p f).mpr ⟨hu, q, hc⟩, hl, by rw [hq]; rfl⟩
    have he := execDrainCompletion_of_drains hdrains
    have hclosed := State.depart_closes (p := p) (q := q) hq hl
    rw [← State.egress_eq_depart hu hc] at hclosed
    exact ⟨he, _, he, hclosed⟩
  · exact execDrainCompletion_of_not (State.not_slotDrains_of_down hd)
  · exact execDrainCompletion_of_not (State.not_slotDrains hn)

/-! ## Where a suspension, a resume and a flush leave the flow -/

/-- A flow that has been taken out of its structure, and whose record names none, has been refiled. -/
theorem SameFlows.refiled_of_unscheduled {s t : State} {f : FlowNo} {r : FlowRecord}
    (h : SameFlows ((s.unschedule f).setFlow f r) t) (hr : r.sched = .empty ∨ r.sched = .held) :
    t.flows = s.flows.set f.val r f.isLt ∧ Refiled s t f := by
  have hready : ∀ p q, t.readyList p q = s.readyWithout f p q := fun p q => by
    rw [← s.unschedule_readyList f p q, State.readyList, h.ready]
    rfl
  have hcalendar : ∀ i, t.calendarSlot i = s.slotWithout f i := fun i => by
    rw [← s.unschedule_calendarSlot f i, State.calendarSlot, h.calendar]
    rfl
  refine ⟨h.flows.trans (by simp), fun p q => ?_, fun i => ?_⟩
  · rw [hready, h.flow_of_setFlow, if_neg (by rcases hr with e | e <;> simp [e]), List.append_nil]
  · rw [hcalendar, h.flow_of_setFlow, if_neg (by rcases hr with e | e <;> simp [e]), List.append_nil]

/-- A flow that no structure held, its record written and placed, has been refiled. -/
theorem refiled_of_placed {s : State} {f : FlowNo} {r : FlowRecord} (hs : r.sched = (s.flow f).sched)
    (hp : r.egressPort = (s.flow f).egressPort) (hq : r.priority = (s.flow f).priority) (hx : r.eligible = (s.flow f).eligible)
    (hr : (s.flow f).sched ≠ .ready) (hw : (s.flow f).sched ≠ .waiting) :
    ((s.setFlow f r).place f).flows = s.flows.set f.val (r.filed s.now) f.isLt ∧ Refiled s ((s.setFlow f r).place f) f := by
  have hflow := s.flow_setFlow_self f r
  obtain ⟨hready, hwaiting⟩ := (s.setFlow f r).place_refiles f (by rw [hflow, hs]; exact hr) (by rw [hflow, hs]; exact hw)
  obtain ⟨er, ew⟩ := s.withouts_setFlow f hs hp hq hx
  refine ⟨?_, fun p q => by rw [hready, er], fun i => by rw [hwaiting, ew]⟩
  rw [((s.setFlow f r).place_does f).1, hflow]
  exact State.flows_set_set s.flows f r _

/-! ## SUSPEND_FLOW and RESUME_FLOW -/

/-- The record that a suspension leaves (R28). -/
def FlowRecord.suspended (r : FlowRecord) : FlowRecord :=
  { r with lifecycle := .suspended, sched := if r.queue = [] then .empty else .held }

theorem sameFlows_suspend (s : State) (f : FlowNo) :
    SameFlows ((s.unschedule f).setFlow f (s.flow f).suspended) (s.suspend f) := by
  rw [← s.unschedule_flow f f]
  exact .refl _

theorem runSuspendFlow_eq {s : State} {r : Payload} {f : FlowNo} (hf : flowOf (param2 r 0) = some f)
    (hl : (s.flow f).lifecycle = .opened) : runSuspendFlow r s =
      okReply (s.suspend f) [byteOf (s.flow f).suspended.sched.code, byteOf (s.flow f).queue.length] := by
  rw [runSuspendFlow, withFlow_eq hf, require_eq (decide_eq_true hl)]
  dsimp only
  rw [(sameFlows_suspend s f).flow_of_setFlow]
  rfl

/-- The record that a RESTART places: a pending contract promoted, D now and k 0 (R20, R30). -/
def FlowRecord.restarted (r : FlowRecord) (now : Stamp) : FlowRecord :=
  { r with lifecycle := .opened, active := r.pending.getD r.active, pending := none, due := now, cyclePos := 0 }

/-- The record that a resume places, by its option: `true` is RESTART (R29, R30). -/
def FlowRecord.resumed (r : FlowRecord) (restart : Bool) (now : Stamp) : FlowRecord :=
  if restart then r.restarted now else { r with lifecycle := .opened }

theorem FlowRecord.resumed_frame (r : FlowRecord) (restart : Bool) (now : Stamp) :
    (r.resumed restart now).sched = r.sched ∧ (r.resumed restart now).egressPort = r.egressPort ∧
    (r.resumed restart now).priority = r.priority ∧ (r.resumed restart now).eligible = r.eligible := by
  cases restart <;> exact ⟨rfl, rfl, rfl, rfl⟩

theorem FlowRecord.promote_restarts (r : FlowRecord) (now : Stamp) :
    { r.promote with lifecycle := .opened, due := now, cyclePos := 0 } = r.restarted now := by
  unfold FlowRecord.restarted
  cases hp : r.pending with
  | none =>
    rw [FlowRecord.promote_of_none hp]
    dsimp only
    rw [hp]
    rfl
  | some c =>
    rw [FlowRecord.promote_of_pending hp]
    rfl

/-- A resume with either option: the flow's record written, then placed. -/
def State.resume (s : State) (f : FlowNo) (restart : Bool) : State :=
  (s.setFlow f ((s.flow f).resumed restart s.now)).place f

theorem State.resume_eq (s : State) (f : FlowNo) (restart : Bool) :
    (if restart then s.resumeRestart f else s.resumeKeep f) = s.resume f restart := by
  cases restart with
  | false => rfl
  | true => exact congrArg (fun r => (s.setFlow f r).place f) ((s.flow f).promote_restarts s.now)

theorem State.resume_withMgmt (s : State) (m : Management) (f : FlowNo) (restart : Bool) :
    (s.withMgmt m).resume f restart = (s.resume f restart).withMgmt m :=
  State.place_withMgmt (s.setFlow f ((s.flow f).resumed restart s.now)) m f

theorem State.resume_flow (s : State) (f : FlowNo) (restart : Bool) :
    (s.resume f restart).flow f = ((s.flow f).resumed restart s.now).filed s.now := by
  rw [State.resume, State.place_flow, if_pos rfl, State.flow_setFlow_self]
  rfl

theorem runResumeFlow_eq {s : State} {r : Payload} {f : FlowNo} {restart : Bool} (hf : flowOf (param2 r 0) = some f)
    (ho : optionOf (param r 2) = some restart) (hl : (s.flow f).lifecycle = .suspended) : runResumeFlow r s =
      okReply (s.resume f restart) (((s.flow f).resumed restart s.now).filed s.now).resumeData := by
  rw [runResumeFlow, withFlow_eq hf, checked_eq ho, require_eq (decide_eq_true hl)]
  dsimp only
  rw [s.resume_eq f restart, s.resume_flow f restart]

/-- A two-way option within its range, by its code (R193). -/
theorem optionOf_of_le {b : Byte} (h : b.toNat ≤ 1) : optionOf b = some (decide (b ≠ 0)) := by
  have hb : b = 0 ∨ b = 1 := by bv_omega
  rcases hb with rfl | rfl <;> rfl

theorem FlowRecord.resumeData_eq (r : FlowRecord) :
    r.resumeData = byteOf r.sched.code :: if r.sched = .waiting then bytes3 r.eligible else [0, 0, 0] := by
  unfold FlowRecord.resumeData
  split_ifs <;> rfl

/-- A SUSPENDED flow stands in no structure (R26). -/
theorem FlowRecord.StandsRight.unplaced_of_suspended {r : FlowRecord} (h : r.StandsRight) (hl : r.lifecycle = .suspended) :
    r.sched ≠ .ready ∧ r.sched ≠ .waiting := by
  obtain ⟨hempty, hheld⟩ := h
  by_cases hq : r.queue = []
  · simp [hempty.mpr hq]
  · simp [hheld.mpr ⟨hl, hq⟩]

/-- Settles O36: a suspension is a removal, a resume is a placement of the record that its option gives. -/
theorem suspendAndResumePlaceTheFlow : Obligations.SuspendAndResumePlaceTheFlow := by
  constructor
  · intro s r rest f h hf hl x sched
    have hrun := (runSuspendFlow_eq (s := s.dequeue rest) hf hl).trans
      (congrArg (fun u => okReply u _) (State.suspend_withMgmt s { s.mgmt with requests := rest } f))
    have hstood : x.suspended.sched = .empty ∨ x.suspended.sched = .held := ite_eq_or_eq _ _ _
    obtain ⟨hflows, hready, hwaiting⟩ := (sameFlows_suspend s f).refiled_of_unscheduled hstood
    refine ⟨_, takeRequest_executes h hrun, ?_, hflows, ⟨hready, hwaiting⟩, rfl⟩
    apply State.eq_of_fields <;> simp
  · intro s r rest f h hf hl hr x restarted final ho
    have hrun := (runResumeFlow_eq (s := s.dequeue rest) hf (optionOf_of_le ho) hl).trans
      (congrArg (fun u => okReply u _) (State.resume_withMgmt s { s.mgmt with requests := rest } f _))
    have hfinal : (x.resumed (decide (param r 2 ≠ 0)) s.now).filed s.now = final := by
      by_cases hz : param r 2 = 0
      · rw [decide_eq_false (not_not.mpr hz)]
        exact (if_pos hz).symm
      · rw [decide_eq_true hz]
        exact (if_neg hz).symm
    obtain ⟨hnr, hnw⟩ := hr.unplaced_of_suspended hl
    obtain ⟨hs, hp, hq, hx⟩ := x.resumed_frame (decide (param r 2 ≠ 0)) s.now
    obtain ⟨hflows, hready, hwaiting⟩ := refiled_of_placed hs hp hq hx hnr hnw
    rw [hfinal] at hflows
    refine ⟨_, takeRequest_executes h hrun, ?_, hflows, ⟨hready, hwaiting⟩, ?_⟩
    · apply State.eq_of_fields <;> simp [State.resume]
    · rw [← final.resumeData_eq, ← hfinal]
      rfl

/-! ## CLOSE_FLOW -/

/-- What an abort does to the probe and to the notices (R190). -/
theorem State.abortProbe_eq (s : State) (f : FlowNo) :
    s.abortProbe f = { s with
      probe := if s.probe.state = .armed ∧ s.probe.flow = f then { s.probe with state := .aborted } else s.probe
      notices := if s.probe.state = .armed ∧ s.probe.flow = f then s.notices.post (.probeDone f) s.time.now .aborted
        else s.notices } := by
  unfold State.abortProbe
  split_ifs <;> rfl

theorem State.startDrain_withMgmt (s : State) (m : Management) (f : FlowNo) :
    (s.withMgmt m).startDrain f = (s.startDrain f).withMgmt m :=
  State.abortProbe_withMgmt (s.setFlow f { s.flow f with lifecycle := .draining, pending := none }) m f

theorem State.closeEmpty_withMgmt (s : State) (m : Management) (f : FlowNo) :
    (s.withMgmt m).closeEmpty f = (s.closeEmpty f).withMgmt m :=
  State.abortProbe_withMgmt (s.setFlow f { s.flow f with lifecycle := .unused, pending := none }) m f

/-- A close comes, after the checks of its flow number and option, to the check of the reference count (R32). -/
theorem runCloseFlow_eq {s : State} {r : Payload} {f : FlowNo} {flush : Bool} (hf : flowOf (param2 r 0) = some f)
    (ho : optionOf (param r 2) = some flush) : runCloseFlow r s =
      if s.refCount f = 0 then (if flush then s.closeFlush f else s.closeDrain f) else refuse s .mapped := by
  rw [runCloseFlow, withFlow_eq hf, checked_eq ho, require]
  simp only [decide_eq_true_eq]

theorem State.closeDrain_of_cells {s : State} {f : FlowNo} (hl : (s.flow f).lifecycle = .opened) (hq : (s.flow f).queue ≠ []) :
    s.closeDrain f = acceptReply (s.startDrain f) [byteOf (s.flow f).queue.length] := by
  rw [State.closeDrain, hl]
  exact if_neg hq

theorem State.closeDrain_of_empty {s : State} {f : FlowNo} (hl : (s.flow f).lifecycle = .opened) (hq : (s.flow f).queue = []) :
    s.closeDrain f = okReply (s.closeEmpty f) [0] := by
  rw [State.closeDrain, hl]
  exact if_pos hq

theorem State.closeFlush_of_used {s : State} {f : FlowNo} (hl : (s.flow f).lifecycle ≠ .unused) :
    s.closeFlush f = okReply (s.flush f) [byteOf (s.flow f).queue.length] := by
  unfold State.closeFlush
  cases h : (s.flow f).lifecycle with
  | unused => exact absurd h hl
  | opened => rfl
  | suspended => rfl
  | draining => rfl

/-- Settles O37: the checks pass up to the reference count, and the effect of a drain does not look at the Management Engine. -/
theorem closeWithDrain : Obligations.CloseWithDrain := by
  intro s r rest f h hf ho x aborts probe notices
  have hopt : optionOf (param r 2) = some false := by rw [ho]; rfl
  have hrun := runCloseFlow_eq (s := s.dequeue rest) hf hopt
  refine ⟨fun hm => ?_, fun hz hl hq => ?_, fun hz hl hq => ?_⟩
  · exact takeRequest_executes h (hrun.trans (if_neg hm.ne'))
  · replace hrun := hrun.trans (if_pos hz)
    have hstart := (State.closeDrain_of_cells (s := s.dequeue rest) hl hq).trans
      (congrArg (fun u => acceptReply u _) (State.startDrain_withMgmt s { s.mgmt with requests := rest } f))
    refine (takeRequest_executes h (hrun.trans hstart)).trans ?_
    rw [State.startDrain, State.abortProbe_eq]
    rfl
  · replace hrun := hrun.trans (if_pos hz)
    have hclose := (State.closeDrain_of_empty (s := s.dequeue rest) hl hq).trans
      (congrArg (fun u => okReply u _) (State.closeEmpty_withMgmt s { s.mgmt with requests := rest } f))
    refine (takeRequest_executes h (hrun.trans hclose)).trans ?_
    rw [State.closeEmpty, State.abortProbe_eq]
    rfl

/-! ## The level test after a return of slots, and FLUSH -/

/-- The test of one level looks at no other level's state. -/
theorem CellBuffer.falls_setRaised_other (b : CellBuffer) {l k : Level} (r : Bool) (h : k ≠ l) :
    (b.setRaised l r).falls k = b.falls k := by
  simp [CellBuffer.falls, CellBuffer.level_setRaised, h]

theorem fallPostings_eq (down : Level → Bool) : fallPostings down =
    (if down .three then [(.watermarkDown .three, .none)] else []) ++
      (if down .two then [(.watermarkDown .two, .none)] else []) ++
      (if down .one then [(.watermarkDown .one, .none)] else []) := by
  simp only [fallPostings, List.filter_cons, List.filter_nil]
  split_ifs <;> rfl

/-- The level test after a return of slots: every raised level with O < W − H is cleared and reported, level 3 first (R83). -/
theorem State.clearLevels_does (s : State) :
    s.clearLevels = { s with
      buffer := s.buffer.withRaised fun l => (s.buffer.level l).raised && !s.buffer.falls l
      notices := s.notices.postAll s.time.now (fallPostings s.buffer.falls) } := by
  have h32 : Level.two ≠ .three := by decide
  have h31 : Level.one ≠ .three := by decide
  have h21 : Level.one ≠ .two := by decide
  rw [State.clearLevels, State.clearLevel_does, State.clearLevel_does, State.clearLevel_does]
  simp only [CellBuffer.falls_setRaised_other _ _ h32, CellBuffer.falls_setRaised_other _ _ h31,
    CellBuffer.falls_setRaised_other _ _ h21, CellBuffer.level_setRaised, if_neg h32, if_neg h31, if_neg h21,
    ← NoticeUnit.postAll_append, fallPostings_eq]
  rfl

/-- The levels that the return of these slots clears: none when no slot comes back (R79, R83; log entry 19). -/
def CellBuffer.fallsOnReturn (b : CellBuffer) (slots : List SlotNo) (k : Level) : Bool :=
  decide (slots ≠ []) && (b.giveBack slots).falls k

theorem CellBuffer.level_giveBack (b : CellBuffer) (slots : List SlotNo) (k : Level) : (b.giveBack slots).level k = b.level k := by
  cases k <;> rfl

/-- Giving no slot back and keeping every level as it is changes nothing. -/
theorem CellBuffer.giveBack_nil (b : CellBuffer) : (b.giveBack []).withRaised (fun k => (b.level k).raised) = b := by
  rw [CellBuffer.giveBack, List.append_nil]
  rfl

/-- What a return of slots does to the buffer and to the notices. -/
theorem State.returnSlots_does (s : State) (slots : List SlotNo) :
    s.returnSlots slots = { s with
      buffer := (s.buffer.giveBack slots).withRaised fun k => (s.buffer.level k).raised && !s.buffer.fallsOnReturn slots k
      notices := s.notices.postAll s.time.now (fallPostings (s.buffer.fallsOnReturn slots)) } := by
  unfold State.returnSlots
  split_ifs with hs
  · subst hs
    have hn : ∀ k, s.buffer.fallsOnReturn [] k = false := fun _ => rfl
    simp only [hn, Bool.not_false, Bool.and_true, CellBuffer.giveBack_nil]
    rfl
  · have hf : s.buffer.fallsOnReturn slots = (s.buffer.giveBack slots).falls := by
      funext k
      simp [CellBuffer.fallsOnReturn, hs]
    rw [State.clearLevels_does, hf]
    simp only [State.withBuffer_buffer, CellBuffer.level_giveBack]
    rfl

theorem NoticeUnit.postAll_ite (u : NoticeUnit) (now : Stamp) (x : Notice × Detail) (c : Prop) [Decidable c] :
    u.postAll now (if c then [x] else []) = if c then u.post x.1 now x.2 else u := by
  split_ifs <;> rfl

/-- A flush up to the end of the flow's probe and drain: the flow out of its structure, its cells returned and counted, its record
closed (R36 items 1 to 5). -/
def State.emptied (s : State) (f : FlowNo) : State :=
  (((s.unschedule f).returnSlots (s.flow f).queue).countFlow f (FlowCounters.addFlushed (s.flow f).queue.length)).setFlow f
    (s.flow f).flushed

theorem State.flush_eq_emptied (s : State) (f : FlowNo) : s.flush f =
    if (s.flow f).lifecycle = .draining then ((s.emptied f).abortProbe f).post (.flowClosed f) .flushed
    else (s.emptied f).abortProbe f := rfl

theorem State.emptied_frame (s : State) (f : FlowNo) : (s.emptied f).time = s.time ∧ (s.emptied f).probe = s.probe := by
  simp [State.emptied]

theorem State.emptied_buffer (s : State) (f : FlowNo) :
    (s.emptied f).buffer = (s.buffer.giveBack (s.flow f).queue).withRaised
      fun k => (s.buffer.level k).raised && !s.buffer.fallsOnReturn (s.flow f).queue k := by
  simp [State.emptied, State.returnSlots_does]

theorem State.emptied_counters (s : State) (f : FlowNo) :
    (s.emptied f).counters = { s.counters with
      flows := s.counters.flows.set f.val ((s.flowCounters f).addFlushed (s.flow f).queue.length) f.isLt } := by
  simp [State.emptied, State.countFlow, State.setFlowCounters, State.flowCounters]

theorem State.emptied_notices (s : State) (f : FlowNo) :
    (s.emptied f).notices = s.notices.postAll s.time.now (fallPostings (s.buffer.fallsOnReturn (s.flow f).queue)) := by
  simp [State.emptied, State.returnSlots_does]

/-- What a flush of flow `f` posts: the levels cleared, the abort of its probe, the end of its drain (R36). -/
def State.flushPostings (s : State) (f : FlowNo) : List (Notice × Detail) :=
  fallPostings (s.buffer.fallsOnReturn (s.flow f).queue)
    ++ (if s.probe.state = .armed ∧ s.probe.flow = f then [(.probeDone f, .aborted)] else [])
    ++ (if (s.flow f).lifecycle = .draining then [(.flowClosed f, .flushed)] else [])

/-- Everything a flush does beside the emptying: the probe and the postings. -/
theorem State.flush_does (s : State) (f : FlowNo) : s.flush f = { s.emptied f with
    probe := if s.probe.state = .armed ∧ s.probe.flow = f then { s.probe with state := .aborted } else s.probe
    notices := s.notices.postAll s.time.now (s.flushPostings f) } := by
  obtain ⟨htime, hprobe⟩ := s.emptied_frame f
  rw [State.flush_eq_emptied, State.abortProbe_eq, htime, hprobe, s.emptied_notices f, State.flushPostings,
    NoticeUnit.postAll_append, NoticeUnit.postAll_append, NoticeUnit.postAll_ite, NoticeUnit.postAll_ite]
  split_ifs <;> simp [State.post, State.withNotices, State.now, htime]

/-- Settles O38: the flush takes the flow out of its structure and empties it, ends its probe and its drain, and none of it looks at
the Management Engine. -/
theorem closeWithFlush : Obligations.CloseWithFlush := by
  intro s r rest f h hf ho hz hl x aborts back falls
  have hopt : optionOf (param r 2) = some true := by rw [ho]; rfl
  have hrun := runCloseFlow_eq (s := s.dequeue rest) hf hopt
  replace hrun := hrun.trans (if_pos hz)
  have hflush := (State.closeFlush_of_used (s := s.dequeue rest) hl).trans
    (congrArg (fun u => okReply u _) (State.flush_withMgmt s { s.mgmt with requests := rest } f))
  obtain ⟨hflows, hready, hwaiting⟩ := (sameFlows_flush s f).refiled_of_unscheduled (.inl rfl)
  have hbuffer : (s.flush f).buffer = back.withRaised fun k => (s.buffer.level k).raised && !falls k := by
    rw [State.flush_does]
    exact s.emptied_buffer f
  have hcounters := (congrArg State.counters (s.flush_does f)).trans (s.emptied_counters f)
  refine ⟨_, takeRequest_executes h (hrun.trans hflush), ?_, rfl, hflows, ⟨hready, hwaiting⟩, hbuffer, hcounters,
    congrArg State.probe (s.flush_does f), congrArg State.notices (s.flush_does f)⟩
  apply State.eq_of_fields <;> simp

end Sys2Proof.Machine

namespace Sys2Proof.Machine

/-! ## Steps with no command waiting -/

/-- A run begins with one step. -/
theorem core_run_succ {s u : State} (h : Machine.step s = .next u) (k : Nat) :
    Host.Core.run core (k + 1) s = Host.Core.run core k u := by
  have hs : core.step s = .next u := h
  simp only [Host.Core.run, hs]

theorem step_of_idle {s : State} (h : s.pending = []) : Machine.step s = .next s.clockPeriod := by
  rw [Machine.step, h]

/-- While the reset input is held the reference-clock count does not run (R43). -/
theorem State.clockPeriod_of_held {s : State} (h : s.resetHeld = true) : s.clockPeriod = s :=
  if_pos h

/-- A reference-clock period that does not complete the period under way is counted (R43). -/
theorem State.clockPeriod_of_lt {s : State} (h : s.resetHeld = false) (hc : s.time.count + 1 < s.time.period) :
    s.clockPeriod = s.withTime { s.time with count := s.time.count + 1 } := by
  rw [State.clockPeriod, if_neg (by simp [h]), if_neg (by omega)]

/-- The reference-clock period that completes the period under way is the tick (R43). -/
theorem State.clockPeriod_of_le {s : State} (h : s.resetHeld = false) (hc : s.time.period ≤ s.time.count + 1) :
    s.clockPeriod = s.tick := by
  rw [State.clockPeriod, if_neg (by simp [h]), if_pos hc]

/-- While the reset input is held no tick occurs (R43). -/
theorem State.tick_of_held {s : State} (h : s.resetHeld = true) : s.tick = s :=
  if_pos h

theorem State.tick_of_released {s : State} (h : s.resetHeld = false) :
    s.tick = ((s.withTime s.time.tick).serviceCalendar).sweepVisit s.time.sweep := by
  rw [State.tick, if_neg (by simp [h])]

/-- `s` with `k` more reference-clock periods counted in the period under way. -/
def State.counted (s : State) (k : Nat) : State :=
  s.withTime { s.time with count := s.time.count + k }

theorem State.counted_counted (s : State) (j k : Nat) : (s.counted j).counted k = s.counted (j + k) := by
  simp [State.counted, State.withTime, Nat.add_assoc]

/-- A tick starts the count again, so it does not look at what has been counted (R43). -/
theorem State.counted_tick {s : State} (h : s.resetHeld = false) (k : Nat) : (s.counted k).tick = s.tick := by
  rw [State.tick_of_released (s := s.counted k) h, State.tick_of_released h]
  rfl

/-- An idle step that does not complete the period counts one reference-clock period. -/
theorem step_counts {s : State} (hp : s.pending = []) (hr : s.resetHeld = false) (hc : s.time.count + 1 < s.time.period) :
    Machine.step s = .next (s.counted 1) := by
  rw [step_of_idle hp, State.clockPeriod_of_lt hr hc]
  rfl

/-- Idle steps short of the period count one reference-clock period each. -/
theorem run_counts {k : Nat} : ∀ {s : State}, s.pending = [] → s.resetHeld = false → s.time.count + k < s.time.period →
    Host.Core.run core k s = .next (s.counted k) := by
  induction k with
  | zero => exact fun _ _ _ => rfl
  | succ k ih =>
    intro s hp hr hk
    have hk1 : s.time.count + 1 + k < s.time.period := by omega
    rw [core_run_succ (step_counts hp hr (by omega)), ih (s := s.counted 1) hp hr hk1, State.counted_counted, Nat.add_comm]

/-- The idle step that completes the period is the tick. -/
theorem run_ticks {k : Nat} : ∀ {s : State}, s.pending = [] → s.resetHeld = false → s.time.count + (k + 1) = s.time.period →
    Host.Core.run core (k + 1) s = .next s.tick := by
  induction k with
  | zero =>
    intro s hp hr hk
    rw [core_run_succ ((step_of_idle hp).trans (congrArg _ (State.clockPeriod_of_le hr hk.ge)))]
    rfl
  | succ k ih =>
    intro s hp hr hk
    have hk1 : s.time.count + 1 + (k + 1) = s.time.period := by omega
    rw [core_run_succ (step_counts hp hr (by omega)), ih (s := s.counted 1) hp hr hk1, State.counted_tick hr]

/-- Settles O2: the steps short of the period count, and the one that completes it is the tick of the state they began in. -/
theorem idleStepsReachTheTick : Obligations.IdleStepsReachTheTick := by
  refine fun s hp => ⟨fun hr => ?_, fun hr hlt => ⟨fun k hk => run_counts hp hr (by omega), ?_⟩⟩
  · rw [step_of_idle hp, State.clockPeriod_of_held hr]
  · obtain ⟨k, hk⟩ : ∃ k, s.time.period - s.time.count = k + 1 := Nat.exists_eq_add_one.mpr (by omega)
    rw [hk]
    exact run_ticks hp hr (by omega)

/-! ## The part with the reset input held -/

/-- While the reset input is held both ports are DOWN (R118). -/
theorem LinkLaw.down_of_held {s : State} (h : LinkLaw s) (hr : s.resetHeld = true) (p : Port) : (s.port p).link = .down := by
  cases hl : (s.port p).link with
  | down => rfl
  | up => exact nomatch hr.symm.trans ((h p).1.mp hl).2

/-- A DOWN port has no arrivals (R111). -/
theorem State.arrive_of_down {s : State} {p : Port} (h : (s.port p).link = .down) (cell : List Byte) : s.arrive p cell = s :=
  if_neg fun ha => nomatch h.symm.trans ((s.isArrival_iff p cell).mp ha).2

/-- A DOWN port offers no slot (R93, R101). -/
theorem State.egress_of_down {s : State} {p : Port} (h : (s.port p).link = .down) : s.egress p = s := by
  rw [State.egress, if_neg (by simp [h])]

/-- Each request row is a taking, of a request of its code by its own checks and effect. -/
theorem exec_of_isRequestRow {i : Instr} (h : isRequestRow i = true) :
    ∃ mine run, ∀ s, exec i s = .next (s.take mine run) := by
  cases i with
  | arrival p cell => exact nomatch h
  | probeCompletion p cell => exact nomatch h
  | cycleBoundaryPromotion e => exact nomatch h
  | tick => exact nomatch h
  | calendarService => exact nomatch h
  | egressSlot p => exact nomatch h
  | drainCompletion p => exact nomatch h
  | lineOkAssertion p => exact nomatch h
  | lineOkDeassertion p => exact nomatch h
  | resetAssertion => exact nomatch h
  | resetRelease first => exact nomatch h
  | _ => exact ⟨_, _, fun _ => rfl⟩

theorem State.setPort_port (s : State) (p : Port) : s.setPort p (s.port p) = s := by
  cases p <;> rfl

/-- A pin that takes the level it has changes nothing. -/
theorem State.setLineOk_same {s : State} {p : Port} {b : Bool} (h : (s.port p).lineOk = b) : s.setLineOk p b = s := by
  subst h
  exact s.setPort_port p

/-- While the reset input is held a rising line-OK input is not followed (R118). -/
theorem State.assertLineOk_of_held {s : State} (h : s.resetHeld = true) (p : Port) : s.assertLineOk p = s.setLineOk p true := by
  unfold State.assertLineOk
  split_ifs with hp
  · exact (State.setLineOk_same hp).symm
  · rfl

/-- While the reset input is held a falling line-OK input is not followed (R118). -/
theorem State.deassertLineOk_of_held {s : State} (h : s.resetHeld = true) (p : Port) :
    s.deassertLineOk p = s.setLineOk p false := by
  unfold State.deassertLineOk
  split_ifs with hp
  · rfl
  · exact (State.setLineOk_same (Bool.eq_false_iff.mpr hp)).symm

/-- An event that changes nothing does so whether or not it takes place. -/
theorem next_ite_same {c : Bool} {s u : State} (h : u = s) :
    (.next (if c then u else s) : Host.Outcome State Fault Refusal) = .next s := by
  rw [h, ite_self]

/-- Settles O7: no tick occurs, both ports are DOWN, no request waits, and the pins alone move. -/
theorem heldResetStopsThePart : Obligations.HeldResetStopsThePart := by
  intro s hr hlink hq
  have htick : s.tick = s := State.tick_of_held hr
  have harrive (p cell) : s.arrive p cell = s := State.arrive_of_down (hlink.down_of_held hr p) cell
  have hegress (p) : s.egress p = s := State.egress_of_down (hlink.down_of_held hr p)
  refine ⟨⟨congrArg _ htick, next_ite_same htick⟩,
    fun p cell => ⟨congrArg _ (harrive p cell), next_ite_same (harrive p cell), next_ite_same (harrive p cell)⟩,
    fun p => ⟨congrArg _ (hegress p), next_ite_same (hegress p), next_ite_same (hegress p)⟩, fun i hi => ?_,
    fun p => congrArg _ (State.assertLineOk_of_held hr p), fun p => congrArg _ (State.deassertLineOk_of_held hr p)⟩
  obtain ⟨mine, run, hrun⟩ := exec_of_isRequestRow hi
  rw [hrun, take_empty s mine run hq]

/-! ## Which commands leave Pace Time -/

/-- `t` has the Time Base of `s` but for the stored divisor, the one part of it that a request writes (R46). -/
def SameClock (s t : State) : Prop :=
  t.time = { s.time with divisor := t.time.divisor }

theorem SameClock.of_time {s t : State} (h : t.time = s.time) : SameClock s t := by
  rw [SameClock, h]

theorem SameClock.refl (s : State) : SameClock s s := .of_time rfl

theorem SameClock.trans {s t u : State} (h : SameClock s t) (k : SameClock t u) : SameClock s u := by
  unfold SameClock at h k ⊢
  rw [k, h]

theorem SameClock.ite {s t : State} {c : Bool} (h : SameClock s t) : SameClock s (if c then t else s) :=
  iteInduction (motive := SameClock s) (fun _ => h) fun _ => .refl s

/-! ### The requests -/

theorem sameClock_checked {α : Type} {o : Option α} {st : Status} {s : State} {k : α → Reply}
    (hk : ∀ a, SameClock s (k a).state) : SameClock s (checked o st s k).state :=
  checked_keeps (.refl s) fun a _ => hk a

theorem sameClock_require {c : Bool} {st : Status} {s : State} {k : Reply} (hk : SameClock s k.state) :
    SameClock s (require c st s k).state :=
  require_keeps (.refl s) fun _ => hk

theorem sameClock_withFlow {r : Payload} {n : Nat} {s : State} {k : FlowNo → Reply} (hk : ∀ f, SameClock s (k f).state) :
    SameClock s (withFlow r n s k).state :=
  sameClock_checked hk

theorem sameClock_setTimebase (r : Payload) (s : State) : SameClock s (runSetTimebase r s).state :=
  sameClock_checked fun _ => sameClock_require rfl

theorem sameClock_openFlow (r : Payload) (s : State) : SameClock s (runOpenFlow r s).state :=
  sameClock_withFlow fun _ => sameClock_checked fun _ => sameClock_checked fun _ => sameClock_checked fun _ =>
    sameClock_checked fun _ => sameClock_checked fun _ => sameClock_require (.of_time rfl)

theorem sameClock_setContract (r : Payload) (s : State) : SameClock s (runSetContract r s).state := by
  refine sameClock_withFlow fun f => sameClock_require (sameClock_checked fun c => .of_time ?_)
  unfold State.setContract
  dsimp only
  split_ifs <;> simp [okReply, acceptReply]

theorem sameClock_commitContract (r : Payload) (s : State) : SameClock s (runCommitContract r s).state :=
  sameClock_withFlow fun _ => sameClock_require (sameClock_require (.of_time (by simp [okReply])))

theorem sameClock_suspendFlow (r : Payload) (s : State) : SameClock s (runSuspendFlow r s).state :=
  sameClock_withFlow fun _ => sameClock_require (.of_time (by simp [okReply]))

theorem sameClock_resumeFlow (r : Payload) (s : State) : SameClock s (runResumeFlow r s).state := by
  refine sameClock_withFlow fun f => sameClock_checked fun restart => sameClock_require (.of_time ?_)
  cases restart <;> simp [okReply]

theorem sameClock_closeDrain (s : State) (f : FlowNo) : SameClock s (s.closeDrain f).state := by
  unfold State.closeDrain
  cases (s.flow f).lifecycle with
  | opened =>
    dsimp only
    split_ifs
    · exact .of_time (by simp [okReply])
    · exact .of_time (by simp [acceptReply])
  | unused => exact .refl s
  | suspended => exact .refl s
  | draining => exact .refl s

theorem sameClock_closeFlush (s : State) (f : FlowNo) : SameClock s (s.closeFlush f).state := by
  by_cases hl : (s.flow f).lifecycle = .unused
  · rw [State.closeFlush, hl]
    exact .refl s
  · rw [State.closeFlush_of_used hl]
    exact .of_time (by simp [okReply])

theorem sameClock_closeFlow (r : Payload) (s : State) : SameClock s (runCloseFlow r s).state := by
  refine sameClock_withFlow fun f => sameClock_checked fun flush => sameClock_require ?_
  cases flush with
  | false => exact sameClock_closeDrain s f
  | true => exact sameClock_closeFlush s f

theorem sameClock_writeMap (r : Payload) (s : State) : SameClock s (runWriteMap r s).state :=
  sameClock_checked fun _ => sameClock_checked fun _ => sameClock_checked fun _ =>
    sameClock_require (sameClock_checked fun _ => .of_time rfl)

theorem sameClock_readMap (r : Payload) (s : State) : SameClock s (runReadMap r s).state :=
  sameClock_checked fun _ => sameClock_checked fun _ => sameClock_checked fun _ => sameClock_checked fun _ =>
    sameClock_require (.of_time rfl)

theorem sameClock_swapMap (r : Payload) (s : State) : SameClock s (runSwapMap r s).state := by
  unfold runSwapMap
  split
  · exact .refl s
  · exact .of_time rfl

theorem sameClock_setWatermarks (r : Payload) (s : State) : SameClock s (runSetWatermarks r s).state :=
  sameClock_checked fun _ => sameClock_require (.of_time (by simp [okReply]))

theorem sameClock_readCounters (r : Payload) (s : State) : SameClock s (runReadCounters r s).state := by
  refine sameClock_checked fun port => ?_
  cases port with
  | true =>
    refine sameClock_checked fun p => sameClock_checked fun clear => .of_time ?_
    cases clear <;> simp [State.readPortCounters, okReply]
  | false =>
    refine sameClock_withFlow fun f => sameClock_checked fun clear => .of_time ?_
    cases clear <;> simp [State.readFlowCounters, okReply]

theorem sameClock_startProbe (r : Payload) (s : State) : SameClock s (runStartProbe r s).state := by
  refine sameClock_checked fun n => ?_
  split_ifs
  · exact .of_time (by simp [okReply])
  · exact sameClock_withFlow fun f => sameClock_require (sameClock_require (.of_time rfl))

/-- A taking leaves the Time Base as the request's own effect does: the Management Engine has none of it. -/
theorem sameClock_take {mine : Byte → Bool} {run : Payload → State → Reply} (hrun : ∀ r u, SameClock u (run r u).state)
    (s : State) : SameClock s (s.take mine run) := by
  rcases take_cases s mine run with e | ⟨r, rest, -, -, -, ⟨-, e⟩ | ⟨x, -, e⟩⟩ <;> rw [e]
  · exact .refl s
  · have hd : SameClock s (s.dequeue rest) := .of_time rfl
    exact (hd.trans (hrun r _)).trans (.of_time rfl)
  · exact .of_time rfl

/-! ### Every command -/

theorem State.follow_time (s : State) (p : Port) : (s.follow p).time = s.time := by
  unfold State.follow
  split_ifs <;> simp

theorem sameClock_releaseReset (s : State) (first : Port) : SameClock s (s.releaseReset first) := by
  unfold State.releaseReset
  split_ifs
  · exact .of_time ((State.follow_time _ _).trans (State.follow_time _ _))
  · exact .refl s

theorem sameClock_arrive (s : State) (p : Port) (cell : List Byte) : SameClock s (s.arrive p cell) :=
  .of_time (by simp)

theorem sameClock_egress (s : State) (p : Port) : SameClock s (s.egress p) :=
  .of_time (by simp)

/-- Every command but a tick and the power-on reset leaves the Time Base but for the stored divisor (R44, R46). -/
theorem exec_sameClock {i : Instr} {s t : State} (ht : i ≠ .tick) (hc : i ≠ .calendarService) (hr : i ≠ .resetAssertion)
    (e : exec i s = .next t) : SameClock s t := by
  have next : ∀ {u : State}, SameClock s u → (.next u : Host.Outcome State Fault Refusal) = .next t → SameClock s t := by
    rintro u hu ⟨⟩
    exact hu
  cases i with
  | tick => exact absurd rfl ht
  | calendarService => exact absurd rfl hc
  | resetAssertion => exact absurd rfl hr
  | arrival p cell => exact next (sameClock_arrive s p cell) e
  | probeCompletion p cell => exact next (sameClock_arrive s p cell).ite e
  | cycleBoundaryPromotion ev =>
    cases ev with
    | arrival p cell => exact next (sameClock_arrive s p cell).ite e
    | slot p => exact next (sameClock_egress s p).ite e
  | egressSlot p => exact next (sameClock_egress s p) e
  | drainCompletion p => exact next (sameClock_egress s p).ite e
  | lineOkAssertion p => exact next (.of_time (by simp)) e
  | lineOkDeassertion p => exact next (.of_time (by simp)) e
  | resetRelease first => exact next (sameClock_releaseReset s first) e
  | sync => exact next (sameClock_take (fun _ u => .refl u) s) e
  | readTime => exact next (sameClock_take (fun _ u => .refl u) s) e
  | setTimebase => exact next (sameClock_take sameClock_setTimebase s) e
  | openFlow => exact next (sameClock_take sameClock_openFlow s) e
  | setContract => exact next (sameClock_take sameClock_setContract s) e
  | commitContract => exact next (sameClock_take sameClock_commitContract s) e
  | suspendFlow => exact next (sameClock_take sameClock_suspendFlow s) e
  | resumeFlow => exact next (sameClock_take sameClock_resumeFlow s) e
  | closeFlow => exact next (sameClock_take sameClock_closeFlow s) e
  | readFlow => exact next (sameClock_take (fun _ u => sameClock_withFlow fun _ => sameClock_checked fun _ => .refl u) s) e
  | prepareMap => exact next (sameClock_take (fun _ _ => sameClock_checked fun _ => .of_time rfl) s) e
  | writeMap => exact next (sameClock_take sameClock_writeMap s) e
  | readMap => exact next (sameClock_take sameClock_readMap s) e
  | swapMap => exact next (sameClock_take sameClock_swapMap s) e
  | setWatermarks => exact next (sameClock_take sameClock_setWatermarks s) e
  | readPool => exact next (sameClock_take (fun _ _ => .of_time rfl) s) e
  | readCounters => exact next (sameClock_take sameClock_readCounters s) e
  | startProbe => exact next (sameClock_take sameClock_startProbe s) e
  | readProbe => exact next (sameClock_take (fun _ u => .refl u) s) e
  | grantNotices => exact next (sameClock_take (fun _ _ => sameClock_checked fun _ => .of_time rfl) s) e
  | setNoticeEnable => exact next (sameClock_take (fun _ _ => sameClock_checked fun _ => .of_time rfl) s) e
  | softReset => exact next (sameClock_take (fun _ _ => .of_time rfl) s) e
  | unknownRequest => exact next (sameClock_take (fun _ u => .refl u) s) e

theorem SameClock.now {s t : State} (h : SameClock s t) : t.time.now = s.time.now := by
  rw [h]

theorem SameClock.count {s t : State} (h : SameClock s t) : t.time.count = s.time.count := by
  rw [h]

theorem State.tick_time {s : State} (h : s.resetHeld = false) : s.tick.time = s.time.tick := by
  rw [State.tick_of_released h]
  simp

/-- CALENDAR_SERVICE is a TICK or nothing (log entry 5). -/
theorem execCalendarService_cases (s : State) : execCalendarService s = .next s ∨ execCalendarService s = execTick s := by
  unfold execCalendarService execTick
  split_ifs
  · exact .inr rfl
  · exact .inl rfl

/-- Settles O9: the tick raises Pace Time, the power-on reset zeroes it, and every other command leaves all of the Time Base but the
stored divisor. -/
theorem paceTimeChangesByTheTickAlone : Obligations.PaceTimeChangesByTheTickAlone := by
  refine ⟨fun s hr => ⟨s.tick, rfl, congrArg TimeBase.now (State.tick_time hr)⟩, by decide, rfl, fun s t e => ?_,
    fun i s t ht hc hr e => (exec_sameClock ht hc hr e).now, fun s t e => ?_,
    fun s t e => (exec_sameClock (by decide) (by decide) (by decide) e).count⟩
  · rw [eq_of_next e (exec_resetAssertion s)]
    rfl
  · exact (execCalendarService_cases s).imp (fun h => eq_of_next e h) fun h => h.symm.trans e

end Sys2Proof.Machine

namespace Sys2Proof.Machine

/-! ## Steps with a command waiting -/

/-- The command at the front of the queue is the one that a step runs (log entry 7). -/
theorem step_of_queued {s : State} {c : Instr} {rest : List Instr} (h : s.pending = c :: rest) :
    Machine.step s = exec c { s with pending := rest } := by
  rw [Machine.step, h]

/-- Settles O1: the queue decides between the front command and the idle period. -/
theorem stepRunsFrontCommand : Obligations.StepRunsFrontCommand := fun _ _ _ h => step_of_queued h

/-! ## The banks of the Channel Map -/

/-- The entry for a channel is one of its port's entries (R52). -/
theorem Bank.entry_mem (b : Bank) (p : Port) (c : UserChannel) : b.entry p c ∈ (b.entries p).toList := by
  rw [Bank.entry, Vector.get_eq_getElem, Vector.mem_toList_iff]
  exact Vector.getElem_mem _

/-- A flow that an entry names is counted (R63). -/
theorem Bank.naming_ne_zero {b : Bank} {p : Port} {c : UserChannel} {f : FlowNo} (h : b.entry p c = some f) :
    b.naming f ≠ 0 := by
  have hpos : 0 < (b.entries p).toList.count (some f) := List.count_pos_iff.mpr (h ▸ b.entry_mem p c)
  unfold Bank.naming
  cases p with
  | T => exact (Nat.add_pos_left hpos _).ne'
  | F => exact (Nat.add_pos_right _ hpos).ne'

/-- What is written in the Staging bank leaves the Active bank (R56, R57). -/
theorem ChannelMap.setStaging_activeBank (m : ChannelMap) (b : Bank) : (m.setStaging b).activeBank = m.activeBank := by
  obtain ⟨bankA, bankB, active, generation, refCounts⟩ := m
  cases active <;> rfl

theorem ChannelMap.setStaging_refCounts (m : ChannelMap) (b : Bank) : (m.setStaging b).refCounts = m.refCounts := by
  obtain ⟨bankA, bankB, active, generation, refCounts⟩ := m
  cases active <;> rfl

/-- A swap recomputes each reference count over the bank that becomes Active (R61). -/
theorem ChannelMap.swap_refCounts (m : ChannelMap) (f : FlowNo) : m.swap.refCounts.get f = m.swap.activeBank.naming f := by
  rw [ChannelMap.swap, Vector.get_eq_getElem, Vector.getElem_ofFn]
  rfl

/-! ## The check of a swap -/

/-- An entry passes the check of a swap when its flow is OPEN or SUSPENDED and egresses on the other port (R59). -/
theorem FlowRecord.swapFault_eq_none_iff (r : FlowRecord) (p : Port) :
    r.swapFault p = none ↔ r.lifecycle.live = true ∧ r.egressPort = otherPort p := by
  have hport : r.egressPort = otherPort p ↔ r.egressPort ≠ p := by
    cases r.egressPort <;> cases p <;> decide
  unfold FlowRecord.swapFault
  cases r.lifecycle with
  | unused => simp [Lifecycle.live]
  | draining => simp [Lifecycle.live]
  | opened => simp [Lifecycle.live, hport]
  | suspended => simp [Lifecycle.live, hport]

theorem State.entryFault_of_portFault {s : State} {b : Bank} {p : Port} (h : s.portFault b p = none) (c : UserChannel) :
    s.entryFault p (b.entry p c) = none := by
  have hmem : (b.entry p c, c.val) ∈ (b.entries p).toList.zipIdx := by
    rw [List.mem_zipIdx_iff_getElem?, Bank.entry, Vector.get_eq_getElem]
    simp
  exact Option.map_eq_none_iff.mp (List.findSome?_eq_none_iff.mp h _ hmem)

/-- In a bank without a fault every entry passes (R59). -/
theorem State.entryFault_of_bankFault {s : State} {b : Bank} (h : s.bankFault b = none) (p : Port) (c : UserChannel) :
    s.entryFault p (b.entry p c) = none := by
  obtain ⟨hT, hF⟩ := Option.or_eq_none_iff.mp h
  cases p with
  | T => exact State.entryFault_of_portFault hT c
  | F => exact State.entryFault_of_portFault hF c

/-! ## What the effects leave of the flows that an entry may name -/

/-- Where `r` is OPEN or SUSPENDED, so is `r'`, with the egress port of `r`: an entry that may name the one may name the other
(R63). -/
def FlowRecord.RouteKept (r r' : FlowRecord) : Prop :=
  r.lifecycle.live = true → r'.lifecycle.live = true ∧ r'.egressPort = r.egressPort

theorem FlowRecord.RouteKept.refl (r : FlowRecord) : r.RouteKept r := fun h => ⟨h, rfl⟩

theorem FlowRecord.RouteKept.trans {r r' r'' : FlowRecord} (h : r.RouteKept r') (k : r'.RouteKept r'') : r.RouteKept r'' :=
  fun hl =>
    have ⟨hl', hp⟩ := h hl
    have ⟨hl'', hp'⟩ := k hl'
    ⟨hl'', hp'.trans hp⟩

theorem FlowRecord.RouteKept.of_eq {r r' : FlowRecord} (hl : r'.lifecycle = r.lifecycle) (hp : r'.egressPort = r.egressPort) :
    r.RouteKept r' :=
  fun h => ⟨hl ▸ h, hp⟩

theorem FlowRecord.RouteKept.of_not_live {r r' : FlowRecord} (h : r.lifecycle.live = false) : r.RouteKept r' :=
  fun hl => nomatch h.symm.trans hl

theorem FlowRecord.routeKept_promote (r : FlowRecord) : r.RouteKept r.promote :=
  have ⟨hl, hp, _⟩ := r.promote_frame
  .of_eq hl hp

theorem FlowRecord.routeKept_updated (r : FlowRecord) (now : Stamp) : r.RouteKept (r.updated now) :=
  have ⟨hl, hp, _⟩ := r.updated_frame now
  .of_eq hl hp

theorem FlowRecord.routeKept_swept (r : FlowRecord) (now : Stamp) : r.RouteKept (r.swept now) :=
  have ⟨hl, hp, _⟩ := r.swept_frame now
  .of_eq hl hp

/-- Every flow that an entry may name in `s` may be named by it in `t`. -/
def RoutesKept (s t : State) : Prop :=
  ∀ f, (s.flow f).RouteKept (t.flow f)

theorem RoutesKept.refl (s : State) : RoutesKept s s := fun _ => .refl _

theorem RoutesKept.trans {s t u : State} (h : RoutesKept s t) (k : RoutesKept t u) : RoutesKept s u :=
  fun f => (h f).trans (k f)

theorem routesKept_of_flows {s t : State} (h : t.flows = s.flows) : RoutesKept s t :=
  fun f => State.flow_congr h f ▸ .refl _

theorem SameFlows.routesKept {s t : State} (h : SameFlows s t) : RoutesKept s t :=
  routesKept_of_flows h.flows

/-- One record rewritten, its route kept. -/
theorem routesKept_of_flow {s t : State} {f : FlowNo} {r : FlowRecord} (h : ∀ g, t.flow g = if g = f then r else s.flow g)
    (hr : (s.flow f).RouteKept r) : RoutesKept s t := fun g => by
  rw [h g]
  split_ifs with hg
  · exact hg ▸ hr
  · exact .refl _

theorem SameFlows.routesKept_of_setFlow {s t : State} {f : FlowNo} {r : FlowRecord} (h : SameFlows (s.setFlow f r) t)
    (hr : (s.flow f).RouteKept r) : RoutesKept s t :=
  (routesKept_of_flow (s.flow_setFlow f · r) hr).trans h.routesKept

/-! ### Placement, promotion and ticks -/

theorem routesKept_place (s : State) (f : FlowNo) : RoutesKept s (s.place f) :=
  routesKept_of_flow (s.place_flow f) (.of_eq rfl rfl)

theorem routesKept_reschedule (s : State) (f : FlowNo) : RoutesKept s (s.reschedule f) :=
  routesKept_of_flow (s.reschedule_flow f) (.of_eq rfl rfl)

theorem routesKept_unschedule (s : State) (f : FlowNo) : RoutesKept s (s.unschedule f) :=
  routesKept_of_flows (by simp)

theorem routesKept_promoteNow (s : State) (f : FlowNo) : RoutesKept s (s.promoteNow f) :=
  ((SameFlows.refl _).routesKept_of_setFlow (s.flow f).routeKept_promote).trans (routesKept_reschedule _ f)

theorem routesKept_serviceCalendar (s : State) : RoutesKept s s.serviceCalendar := fun g => by
  rw [State.serviceCalendar_flow]
  split_ifs
  · exact .of_eq rfl rfl
  · exact .refl _

theorem routesKept_sweepVisit (s : State) (f : FlowNo) : RoutesKept s (s.sweepVisit f) :=
  routesKept_of_flow (s.sweepVisit_flow f) ((s.flow f).routeKept_swept s.now)

theorem routesKept_tick (s : State) : RoutesKept s s.tick := by
  unfold State.tick
  split_ifs
  · exact .refl s
  · have hnow : RoutesKept s (s.withTime s.time.tick) := routesKept_of_flows rfl
    exact (hnow.trans (routesKept_serviceCalendar _)).trans (routesKept_sweepVisit _ _)

/-! ### Arrivals and slots -/

theorem routesKept_settle (s : State) (f : FlowNo) (r : FlowRecord) : RoutesKept s (s.settle f r) := by
  obtain ⟨u, e, es⟩ := s.settle_eq f r
  have hu : RoutesKept s u := by
    refine e.routesKept_of_setFlow ?_
    split_ifs
    · exact (s.flow f).routeKept_updated s.now
    · exact .refl _
  rw [es]
  split_ifs
  · exact hu.trans (routesKept_place u f)
  · exact hu.trans (routesKept_reschedule u f)
  · exact hu

theorem routesKept_admitCell (s : State) (f : FlowNo) (c : StoredCell) : RoutesKept s (s.admitCell f c) := by
  rcases s.admitCell_cases f c with e | ⟨hq, ea⟩
  · exact e.routesKept
  · obtain ⟨slot, v, e, e'⟩ := State.enqueue_settles (State.freeList_of_queued hq) f c
    have hv : RoutesKept s v := e.routesKept_of_setFlow (.of_eq rfl rfl)
    rw [ea]
    exact (hv.trans (routesKept_settle v f _)).trans e'.routesKept

theorem routesKept_receive (s : State) (p : Port) (c : Cell) : RoutesKept s (s.receive p c) := by
  have counted (g) : RoutesKept s (s.countPort p g) := (sameFlows_countPort s p g).routesKept
  unfold State.receive
  split_ifs
  · dsimp only
    cases classify p c with
    | idle => exact .refl s
    | misdirected => exact (counted _).trans (sameFlows_countPort _ _ _).routesKept
    | request => exact (counted _).trans (sameFlows_offerRequest _ _).routesKept
    | user ch de =>
      dsimp only
      cases s.lookup p ch with
      | none => exact (counted _).trans (sameFlows_countPort _ _ _).routesKept
      | some f => exact ((counted _).trans (routesKept_admitCell _ f _)).trans (sameFlows_capture _ _ _ _).routesKept
  · exact (counted _).trans (routesKept_of_flows rfl)

theorem routesKept_arrive (s : State) (p : Port) (cell : List Byte) : RoutesKept s (s.arrive p cell) := by
  unfold State.arrive
  split_ifs
  · exact routesKept_receive s p _
  · exact .refl s

/-- The end of a drain takes no route away: a DRAINING flow has none (R35). -/
theorem routesKept_finishDrain {s : State} {f : FlowNo} (h : (s.flow f).lifecycle = .draining) :
    RoutesKept s (s.finishDrain f) :=
  (sameFlows_finishDrain s f).routesKept_of_setFlow (.of_not_live (by rw [h]; rfl))

theorem routesKept_departureArithmetic (s : State) (f : FlowNo) : RoutesKept s (s.departureArithmetic f) := by
  refine (sameFlows_departureArithmetic s f).routesKept_of_setFlow ?_
  split_ifs
  · exact (s.flow f).routeKept_updated s.now
  · exact .refl _

theorem routesKept_afterDeparture (s : State) (f : FlowNo) : RoutesKept s (s.afterDeparture f) := by
  unfold State.afterDeparture
  split_ifs with hd
  · exact routesKept_finishDrain hd.2
  · exact routesKept_place s f

theorem routesKept_depart (s : State) (p : Port) (q : Priority) (f : FlowNo) : RoutesKept s (s.depart p q f) := by
  have hlist : (s.setReadyList p q (s.readyList p q).tail).flows = s.flows := by simp
  cases hq : (s.flow f).queue with
  | nil =>
    rw [State.depart, hq]
    exact (routesKept_of_flows hlist).trans (sameFlows_transmit _ _ _).routesKept
  | cons slot rest =>
    obtain ⟨v, e, ed⟩ := State.depart_takesHead (p := p) (q := q) hq
    have hr : ((s.setReadyList p q (s.readyList p q).tail).flow f).RouteKept { s.flow f with queue := rest } := by
      rw [State.flow_congr hlist f]
      exact .of_eq rfl rfl
    have hv : RoutesKept s v := (routesKept_of_flows hlist).trans (e.routesKept_of_setFlow hr)
    rw [ed]
    exact (hv.trans (routesKept_departureArithmetic v f)).trans (routesKept_afterDeparture _ f)

theorem routesKept_egress (s : State) (p : Port) : RoutesKept s (s.egress p) := by
  unfold State.egress State.openSlot
  split_ifs
  · cases s.slotChoice p with
    | response r rest => exact (sameFlows_sendResponse _ _ _).routesKept
    | notice r => exact (sameFlows_sendNotice _ _).routesKept
    | departure q f => exact routesKept_depart s p q f
    | idle => exact (sameFlows_transmit _ _ _).routesKept
  · exact .refl s

/-! ### Requests on flows -/

/-- No entry may name an UNUSED flow, so whatever is written in its record takes no route away (R27). -/
theorem routesKept_of_unused {s t : State} {f : FlowNo} {r : FlowRecord} (h : (s.flow f).lifecycle = .unused)
    (e : SameFlows (s.setFlow f r) t) : RoutesKept s t :=
  e.routesKept_of_setFlow (.of_not_live (by rw [h]; rfl))

theorem routesKept_setContract (s : State) (f : FlowNo) (c : Contract) : RoutesKept s (s.setContract f c).state := by
  have hp : RoutesKept s (s.setFlow f { s.flow f with pending := some c }) :=
    (SameFlows.refl _).routesKept_of_setFlow (.of_eq rfl rfl)
  unfold State.setContract
  dsimp only
  split_ifs
  · exact hp.trans (routesKept_promoteNow _ f)
  · exact hp
  · exact hp

theorem routesKept_suspend (s : State) (f : FlowNo) : RoutesKept s (s.suspend f) := by
  refine (routesKept_unschedule s f).trans ((sameFlows_suspend s f).routesKept_of_setFlow fun _ => ⟨rfl, ?_⟩)
  rw [State.unschedule_flow]
  rfl

theorem routesKept_resume (s : State) (f : FlowNo) (restart : Bool) : RoutesKept s (s.resume f restart) := by
  have hw : (s.flow f).RouteKept ((s.flow f).resumed restart s.now) := by
    cases restart <;> exact fun _ => ⟨rfl, rfl⟩
  exact ((SameFlows.refl _).routesKept_of_setFlow hw).trans (routesKept_place _ f)

/-! ## The law of the Channel Map -/

/-- The law after an event that leaves the Active bank and the counts, and keeps the route of every flow whose count is not 0. -/
theorem MapLaw.of_counted {s t : State} (h : MapLaw s) (hc : t.map.refCounts = s.map.refCounts)
    (hb : t.map.activeBank = s.map.activeBank) (hf : ∀ f, s.refCount f ≠ 0 → (s.flow f).RouteKept (t.flow f)) : MapLaw t where
  counts f := by
    rw [State.refCount, hc, hb]
    exact h.counts f
  entries p c f he := by
    rw [hb] at he
    have hne : s.refCount f ≠ 0 := by
      rw [h.counts]
      exact Bank.naming_ne_zero he
    obtain ⟨hlive, hport⟩ := h.entries p c f he
    obtain ⟨hlive', hport'⟩ := hf f hne hlive
    exact ⟨hlive', hport'.trans hport⟩

/-- The law after an event that leaves the map and keeps every route. -/
theorem MapLaw.routed {s t : State} (h : MapLaw s) (hm : t.map = s.map) (hf : RoutesKept s t) : MapLaw t :=
  h.of_counted (by rw [hm]) (by rw [hm]) fun f _ => hf f

/-- The law after an event that leaves the map and the flows. -/
theorem MapLaw.same {s t : State} (h : MapLaw s) (hm : t.map = s.map) (hf : t.flows = s.flows) : MapLaw t :=
  h.routed hm (routesKept_of_flows hf)

/-- The law after the close of a flow that no Active entry names (R32). -/
theorem MapLaw.closed {s t : State} {f : FlowNo} (h : MapLaw s) (hz : s.refCount f = 0) (hm : t.map = s.map)
    (o : OthersKept s t f) : MapLaw t :=
  h.of_counted (by rw [hm]) (by rw [hm]) fun g hg => by
    rw [o.flow g fun e => hg (e ▸ hz)]
    exact .refl _

/-- The law after a write of the Staging bank, which no arrival reads (R56, R57). -/
theorem MapLaw.staged {s : State} (h : MapLaw s) (b : Bank) : MapLaw (s.withMap (s.map.setStaging b)) :=
  h.of_counted (s.map.setStaging_refCounts b) (s.map.setStaging_activeBank b) fun _ _ => .refl _

/-- An accepted swap establishes the law, whatever the banks were before (R59, R61). -/
theorem mapLaw_swap {s : State} (h : s.bankFault s.map.stagingBank = none) : MapLaw (s.withMap s.map.swap) where
  counts := s.map.swap_refCounts
  entries p c f he := by
    have he' : s.map.stagingBank.entry p c = some f := he
    have hpass := State.entryFault_of_bankFault h p c
    rw [he'] at hpass
    exact ((s.flow f).swapFault_eq_none_iff p).mp hpass

/-- Both resets establish the law: no entry names a flow (R53). -/
theorem DatapathReset.mapLaw {t : State} (h : DatapathReset t) : MapLaw t where
  counts f := by
    rw [h.refCount, h.map]
    exact (Bank.none_naming f).symm
  entries p c f he := by
    have hA := (h.entry p c).1
    rw [h.map] at he hA
    exact nomatch hA.symm.trans he

/-! ### The requests keep the law -/

theorem MapLaw.runOpenFlow {s : State} (h : MapLaw s) (r : Payload) : MapLaw (runOpenFlow r s).state :=
  withFlow_keeps h fun _ => checked_keeps h fun _ _ => checked_keeps h fun _ _ => checked_keeps h fun _ _ =>
    checked_keeps h fun _ _ => checked_keeps h fun _ _ => require_keeps h fun hu =>
      h.routed rfl (routesKept_of_unused (of_decide_eq_true hu) ⟨rfl, rfl, rfl, rfl, rfl⟩)

theorem State.setContract_map (s : State) (f : FlowNo) (c : Contract) : (s.setContract f c).state.map = s.map := by
  unfold State.setContract
  dsimp only
  split_ifs <;> simp [okReply, acceptReply]

theorem MapLaw.runSetContract {s : State} (h : MapLaw s) (r : Payload) : MapLaw (runSetContract r s).state :=
  withFlow_keeps h fun f => require_keeps h fun _ => checked_keeps h fun c _ =>
    h.routed (s.setContract_map f c) (routesKept_setContract s f c)

theorem MapLaw.runCommitContract {s : State} (h : MapLaw s) (r : Payload) : MapLaw (runCommitContract r s).state :=
  withFlow_keeps h fun f => require_keeps h fun _ => require_keeps h fun _ =>
    h.routed (by simp [okReply]) (routesKept_promoteNow s f)

theorem MapLaw.runSuspendFlow {s : State} (h : MapLaw s) (r : Payload) : MapLaw (runSuspendFlow r s).state :=
  withFlow_keeps h fun f => require_keeps h fun _ => h.routed (by simp [okReply]) (routesKept_suspend s f)

theorem MapLaw.runResumeFlow {s : State} (h : MapLaw s) (r : Payload) : MapLaw (runResumeFlow r s).state := by
  refine withFlow_keeps h fun f => checked_keeps h fun restart _ => require_keeps h fun _ => ?_
  dsimp only [okReply]
  rw [s.resume_eq f restart]
  exact h.routed (by simp [State.resume]) (routesKept_resume s f restart)

theorem MapLaw.closeDrain {s : State} (h : MapLaw s) {f : FlowNo} (hz : s.refCount f = 0) : MapLaw (s.closeDrain f).state := by
  unfold State.closeDrain
  cases (s.flow f).lifecycle with
  | opened =>
    dsimp only
    split_ifs
    · exact h.closed hz (by simp [okReply]) (sameFlows_closeEmpty s f).othersKept_of_setFlow
    · exact h.closed hz (by simp [acceptReply]) (sameFlows_startDrain s f).othersKept_of_setFlow
  | unused => exact h
  | suspended => exact h
  | draining => exact h

theorem MapLaw.closeFlush {s : State} (h : MapLaw s) {f : FlowNo} (hz : s.refCount f = 0) : MapLaw (s.closeFlush f).state := by
  by_cases hl : (s.flow f).lifecycle = .unused
  · rw [State.closeFlush, hl]
    exact h
  · rw [State.closeFlush_of_used hl]
    exact h.closed hz (by simp [okReply]) ((othersKept_unschedule s f).trans (sameFlows_flush s f).othersKept_of_setFlow)

/-- CLOSE_FLOW is refused with MAPPED while an Active entry names its flow (R32). -/
theorem MapLaw.runCloseFlow {s : State} (h : MapLaw s) (r : Payload) : MapLaw (runCloseFlow r s).state := by
  refine withFlow_keeps h fun f => checked_keeps h fun flush _ => require_keeps h fun hz => ?_
  cases flush with
  | false => exact h.closeDrain (of_decide_eq_true hz)
  | true => exact h.closeFlush (of_decide_eq_true hz)

theorem MapLaw.runPrepareMap {s : State} (h : MapLaw s) (r : Payload) : MapLaw (runPrepareMap r s).state :=
  checked_keeps h fun _ _ => h.staged _

theorem MapLaw.runWriteMap {s : State} (h : MapLaw s) (r : Payload) : MapLaw (runWriteMap r s).state :=
  checked_keeps h fun _ _ => checked_keeps h fun _ _ => checked_keeps h fun _ _ => require_keeps h fun _ =>
    checked_keeps h fun _ _ => h.staged _

theorem MapLaw.runSwapMap {s : State} (h : MapLaw s) (r : Payload) : MapLaw (runSwapMap r s).state := by
  unfold Machine.runSwapMap
  split
  next => exact h
  next hpass => exact mapLaw_swap hpass

theorem MapLaw.runSetWatermarks {s : State} (h : MapLaw s) (r : Payload) : MapLaw (runSetWatermarks r s).state :=
  checked_keeps h fun _ _ => require_keeps h fun _ => h.same (by simp [okReply]) (by simp [okReply])

theorem MapLaw.runReadCounters {s : State} (h : MapLaw s) (r : Payload) : MapLaw (runReadCounters r s).state := by
  refine checked_keeps h fun port _ => ?_
  cases port with
  | true =>
    refine checked_keeps h fun p _ => checked_keeps h fun clear _ => ?_
    cases clear with
    | true => exact h.same (by simp [State.readPortCounters, okReply]) (by simp [State.readPortCounters, okReply])
    | false => exact h
  | false =>
    refine withFlow_keeps h fun f => checked_keeps h fun clear _ => ?_
    cases clear with
    | true => exact h.same rfl rfl
    | false => exact h

theorem MapLaw.runStartProbe {s : State} (h : MapLaw s) (r : Payload) : MapLaw (runStartProbe r s).state := by
  refine checked_keeps h fun n _ => ?_
  split_ifs
  · exact h.same (by simp [okReply]) (by simp [okReply])
  · exact withFlow_keeps h fun f => require_keeps h fun _ => require_keeps h fun _ => h.same rfl rfl

/-- A taking keeps the law when the request's own effect does: the Management Engine has no part of the map. -/
theorem MapLaw.take {s : State} {mine : Byte → Bool} {run : Payload → State → Reply} (h : MapLaw s)
    (hrun : ∀ u, MapLaw u → ∀ r, MapLaw (run r u).state) : MapLaw (s.take mine run) := by
  rcases take_cases s mine run with e | ⟨r, rest, -, -, -, ⟨-, e⟩ | ⟨x, -, e⟩⟩ <;> rw [e]
  · exact h
  · have hd : MapLaw (s.dequeue rest) := h.same rfl rfl
    exact (hrun _ hd r).same rfl rfl
  · exact h.same rfl rfl

/-! ### Every command, and every step, keeps the law -/

theorem MapLaw.arrive {s : State} (h : MapLaw s) (p : Port) (cell : List Byte) : MapLaw (s.arrive p cell) :=
  h.routed (by simp) (routesKept_arrive s p cell)

theorem MapLaw.egress {s : State} (h : MapLaw s) (p : Port) : MapLaw (s.egress p) :=
  h.routed (by simp) (routesKept_egress s p)

theorem MapLaw.tick {s : State} (h : MapLaw s) : MapLaw s.tick :=
  h.routed (by simp) (routesKept_tick s)

theorem MapLaw.clockPeriod {s : State} (h : MapLaw s) : MapLaw s.clockPeriod := by
  unfold State.clockPeriod
  split_ifs
  · exact h
  · exact h.tick
  · exact h.same rfl rfl

theorem MapLaw.follow {s : State} (h : MapLaw s) (p : Port) : MapLaw (s.follow p) := by
  unfold State.follow
  split_ifs
  · exact h.same (by simp) (by simp)
  · exact h

theorem MapLaw.releaseReset {s : State} (h : MapLaw s) (first : Port) : MapLaw (s.releaseReset first) := by
  unfold State.releaseReset
  split_ifs
  · have hr : MapLaw { s with resetHeld := false } := h.same rfl rfl
    exact (hr.follow first).follow (otherPort first)
  · exact h

/-- A row that names a part of an event is that event or nothing (log entry 5). -/
theorem MapLaw.ite {s t : State} {c : Bool} (h : MapLaw s) (k : MapLaw t) : MapLaw (if c then t else s) :=
  iteInduction (motive := MapLaw) (fun _ => k) fun _ => h

/-- Every command keeps the law. `KeptByEffects` does not give it, since it asks for the flush of any flow at all: the flush of a
flow that an Active entry names would break the law. -/
theorem MapLaw.exec {s t : State} {i : Instr} (h : MapLaw s) (e : exec i s = .next t) : MapLaw t := by
  have next : ∀ {u : State}, MapLaw u → (.next u : Host.Outcome State Fault Refusal) = .next t → MapLaw t := by
    rintro u hu ⟨⟩
    exact hu
  cases i with
  | arrival p cell => exact next (h.arrive p cell) e
  | probeCompletion p cell => exact next (h.ite (h.arrive p cell)) e
  | cycleBoundaryPromotion ev =>
    cases ev with
    | arrival p cell => exact next (h.ite (h.arrive p cell)) e
    | slot p => exact next (h.ite (h.egress p)) e
  | tick => exact next h.tick e
  | calendarService => exact next (h.ite h.tick) e
  | egressSlot p => exact next (h.egress p) e
  | drainCompletion p => exact next (h.ite (h.egress p)) e
  | lineOkAssertion p => exact next (h.same (by simp) (by simp)) e
  | lineOkDeassertion p => exact next (h.same (by simp) (by simp)) e
  | resetAssertion => exact next (datapathReset_holdReset s).mapLaw e
  | resetRelease first => exact next (h.releaseReset first) e
  | sync => exact next (h.take fun _ hu _ => hu) e
  | readTime => exact next (h.take fun _ hu _ => hu) e
  | setTimebase =>
    exact next (h.take fun _ hu _ => checked_keeps hu fun _ _ => require_keeps hu fun _ => hu.same rfl rfl) e
  | openFlow => exact next (h.take fun _ hu => hu.runOpenFlow) e
  | setContract => exact next (h.take fun _ hu => hu.runSetContract) e
  | commitContract => exact next (h.take fun _ hu => hu.runCommitContract) e
  | suspendFlow => exact next (h.take fun _ hu => hu.runSuspendFlow) e
  | resumeFlow => exact next (h.take fun _ hu => hu.runResumeFlow) e
  | closeFlow => exact next (h.take fun _ hu => hu.runCloseFlow) e
  | readFlow => exact next (h.take fun _ hu _ => withFlow_keeps hu fun _ => checked_keeps hu fun _ _ => hu) e
  | prepareMap => exact next (h.take fun _ hu => hu.runPrepareMap) e
  | writeMap => exact next (h.take fun _ hu => hu.runWriteMap) e
  | readMap =>
    exact next (h.take fun _ hu _ => checked_keeps hu fun _ _ => checked_keeps hu fun _ _ => checked_keeps hu fun _ _ =>
      checked_keeps hu fun _ _ => require_keeps hu fun _ => hu) e
  | swapMap => exact next (h.take fun _ hu => hu.runSwapMap) e
  | setWatermarks => exact next (h.take fun _ hu => hu.runSetWatermarks) e
  | readPool => exact next (h.take fun _ hu _ => hu.same rfl rfl) e
  | readCounters => exact next (h.take fun _ hu => hu.runReadCounters) e
  | startProbe => exact next (h.take fun _ hu => hu.runStartProbe) e
  | readProbe => exact next (h.take fun _ hu _ => hu) e
  | grantNotices => exact next (h.take fun _ hu _ => checked_keeps hu fun _ _ => hu.same rfl rfl) e
  | setNoticeEnable => exact next (h.take fun _ hu _ => checked_keeps hu fun _ _ => hu.same rfl rfl) e
  | softReset => exact next (h.take fun u _ _ => (datapathReset_softReset u u.mgmt).mapLaw) e
  | unknownRequest => exact next (h.take fun _ hu _ => hu) e

/-- Settles O56: SWAP_MAP and the resets establish the law; every other command leaves the Active bank and its counts and keeps
the route of each flow whose count is not 0, CLOSE_FLOW because it is refused for such a flow. -/
theorem mapLawIsKept : Obligations.MapLawIsKept := by
  intro s t h e
  cases hp : s.pending with
  | nil =>
    rw [step_of_idle hp] at e
    cases e
    exact h.clockPeriod
  | cons c rest =>
    rw [step_of_queued hp] at e
    have hq : MapLaw { s with pending := rest } := h.same rfl rfl
    exact hq.exec e

end Sys2Proof.Machine

namespace Sys2Proof.Machine

/-! ## The level test after an enqueue -/

/-- Whether a level rises does not depend on the state of another level. -/
theorem CellBuffer.rises_setRaised_other (b : CellBuffer) {l k : Level} (r : Bool) (h : k ≠ l) :
    (b.setRaised l r).rises k = b.rises k := by
  simp [CellBuffer.rises, CellBuffer.level_setRaised, h]

theorem risePostings_eq (up : Level → Bool) : risePostings up =
    (if up .one then [(.watermarkUp .one, .none)] else []) ++
      (if up .two then [(.watermarkUp .two, .none)] else []) ++
      (if up .three then [(.watermarkUp .three, .none)] else []) := by
  simp only [risePostings, List.filter_cons, List.filter_nil]
  split_ifs <;> rfl

/-- The level test after an enqueue: every clear level whose threshold O has come to is raised and reported, level 1 first (R82). -/
theorem State.raiseLevels_does (s : State) :
    s.raiseLevels = { s with
      buffer := s.buffer.withRaised fun l => (s.buffer.level l).raised || s.buffer.rises l
      notices := s.notices.postAll s.time.now (risePostings s.buffer.rises) } := by
  have h21 : Level.two ≠ .one := by decide
  have h31 : Level.three ≠ .one := by decide
  have h32 : Level.three ≠ .two := by decide
  rw [State.raiseLevels, State.raiseLevel_does, State.raiseLevel_does, State.raiseLevel_does]
  simp only [CellBuffer.rises_setRaised_other _ _ h21, CellBuffer.rises_setRaised_other _ _ h31,
    CellBuffer.rises_setRaised_other _ _ h32, CellBuffer.level_setRaised, if_neg h21, if_neg h31, if_neg h32,
    ← NoticeUnit.postAll_append, risePostings_eq]
  rfl

theorem CellBuffer.rises_iff (b : CellBuffer) (l : Level) :
    b.rises l = true ↔ (b.level l).raised = false ∧ b.occupancy = (b.level l).threshold := by
  simp [CellBuffer.rises]

/-- Two levels of different thresholds do not rise together (R82). -/
theorem CellBuffer.rises_unique {b : CellBuffer} {l k : Level} (h : b.rises l = true)
    (hne : (b.level l).threshold ≠ (b.level k).threshold) : b.rises k = false := by
  obtain ⟨-, hl⟩ := (b.rises_iff l).mp h
  refine Bool.eq_false_iff.mpr fun hk => hne ?_
  obtain ⟨-, hk⟩ := (b.rises_iff k).mp hk
  exact hl.symm.trans hk

/-- While the thresholds rise, an enqueue raises at most one level. -/
theorem risePostings_length_le_one {b : CellBuffer} (h12 : b.level1.threshold < b.level2.threshold)
    (h23 : b.level2.threshold < b.level3.threshold) : (risePostings b.rises).length ≤ 1 := by
  rw [risePostings_eq]
  by_cases h1 : b.rises .one = true
  · have h2 : b.rises .two = false := CellBuffer.rises_unique h1 h12.ne
    have h3 : b.rises .three = false := CellBuffer.rises_unique h1 (h12.trans h23).ne
    simp [h1, h2, h3]
  by_cases h2 : b.rises .two = true
  · have h3 : b.rises .three = false := CellBuffer.rises_unique h2 h23.ne
    simp [h1, h2, h3]
  · simp only [if_neg h1, if_neg h2, List.nil_append]
    split_ifs <;> simp

/-- Settles O46: the tests of the three levels, each of which looks at its own level alone. -/
theorem watermarkLevelsRiseAndClear : Obligations.WatermarkLevelsRiseAndClear :=
  fun s => ⟨s.raiseLevels_does, s.clearLevels_does, risePostings_length_le_one⟩

/-! ## Admission, steps 1 to 4 -/

theorem Mode.polices_iff (m : Mode) : m.polices = true ↔ m = .policeTag ∨ m = .policeDrop := by
  cases m <;> simp [Mode.polices]

/-- A cell is nonconforming under the POLICE modes when it comes before D − T (R4, R5). -/
theorem FlowRecord.judge_nonconforming_iff_late (r : FlowRecord) (t : Stamp) :
    r.judge t = .nonconforming ↔ (r.active.mode = .policeTag ∨ r.active.mode = .policeDrop) ∧
      2 ^ 23 ≤ (t - (r.due - r.active.tolerance.setWidth 24)).toNat := by
  rw [FlowRecord.judge_nonconforming_iff, Mode.polices_iff, notBefore_iff, Nat.not_lt]
  rfl

theorem FlowRecord.tags_iff (r : FlowRecord) (t : Stamp) (de : Bool) :
    r.tags t de = true ↔ r.active.mode = .policeTag ∧ r.judge t = .nonconforming ∧ de = false := by
  simp [FlowRecord.tags, and_assoc]

/-- A cell is stored marked when it arrived so or POLICE_TAG finds it nonconforming (R10, R72). -/
theorem FlowRecord.marked_de_iff (r : FlowRecord) (t : Stamp) (c : StoredCell) :
    (r.marked t c).de = true ↔ c.de = true ∨ (r.active.mode = .policeTag ∧ r.judge t = .nonconforming) := by
  rw [FlowRecord.marked, Bool.or_eq_true, FlowRecord.tags_iff]
  cases c.de <;> simp

theorem WaterLevel.sheds_iff (w : WaterLevel) (q : Priority) (de : Bool) :
    w.sheds q de = true ↔ w.raised = true ∧
      ((w.action = .shedDe ∧ de = true) ∨ ∃ p, w.action = .shedBelow p ∧ p < q) := by
  rw [WaterLevel.sheds, Bool.and_eq_true]
  cases w.action <;> simp

/-- The cell is shed when the action of some raised level sheds it (R73). -/
theorem CellBuffer.sheds_iff (b : CellBuffer) (q : Priority) (de : Bool) :
    b.sheds q de = true ↔ ∃ l, (b.level l).sheds q de = true := by
  rw [CellBuffer.sheds, Bool.or_eq_true, Bool.or_eq_true]
  constructor
  · rintro ((h | h) | h)
    · exact ⟨.one, h⟩
    · exact ⟨.two, h⟩
    · exact ⟨.three, h⟩
  · rintro ⟨l, h⟩
    cases l with
    | one => exact .inl (.inl h)
    | two => exact .inl (.inr h)
    | three => exact .inr h

/-- Step 1 discards the cell: it is nonconforming on a POLICE_DROP flow (R72). -/
def State.PolicesAway (s : State) (f : FlowNo) : Prop :=
  (s.flow f).active.mode = .policeDrop ∧ (s.flow f).judge s.now = .nonconforming

/-- Step 2 discards the cell: a raised level's action sheds it, with the mark it would be stored with (R73). -/
def State.Sheds (s : State) (f : FlowNo) (c : StoredCell) : Prop :=
  s.buffer.sheds (s.flow f).priority ((s.flow f).marked s.now c).de = true

theorem State.policesAway_iff (s : State) (f : FlowNo) :
    s.PolicesAway f ↔ ((s.flow f).active.mode = .policeDrop && (s.flow f).judge s.now = .nonconforming) = true := by
  simp [State.PolicesAway]

/-- Each discarding step, where no step before it discards, decides the admission; otherwise the cell is queued (R71). -/
theorem State.admission_policed {s : State} {f : FlowNo} (h : s.PolicesAway f) (c : StoredCell) :
    s.admission f c = .discardedPolice :=
  if_pos ((s.policesAway_iff f).mp h)

theorem State.admission_shed {s : State} {f : FlowNo} {c : StoredCell} (h : ¬ s.PolicesAway f) (hs : s.Sheds f c) :
    s.admission f c = .discardedShed :=
  (if_neg (mt (s.policesAway_iff f).mpr h)).trans (if_pos hs)

theorem State.admission_queueFull {s : State} {f : FlowNo} {c : StoredCell} (h : ¬ s.PolicesAway f) (hs : ¬ s.Sheds f c)
    (hq : (s.flow f).queueLimit ≤ (s.flow f).queue.length) : s.admission f c = .discardedQueue :=
  (if_neg (mt (s.policesAway_iff f).mpr h)).trans ((if_neg hs).trans (if_pos hq))

theorem State.admission_roomInQueue {s : State} {f : FlowNo} {c : StoredCell} (h : ¬ s.PolicesAway f) (hs : ¬ s.Sheds f c)
    (hq : (s.flow f).queue.length < (s.flow f).queueLimit) :
    s.admission f c = if s.buffer.occupancy = 1024 then .discardedPool else .queued :=
  (if_neg (mt (s.policesAway_iff f).mpr h)).trans ((if_neg hs).trans (if_neg (Nat.not_le.mpr hq)))

/-- Settles O14: the conditions of the statement are those of the steps, and the effect is that of the step which decides. -/
theorem admissionDiscardsInOrder : Obligations.AdmissionDiscardsInOrder := by
  intro s f c r late de shed dropped
  have hlate : r.judge s.now = .nonconforming ↔ late := r.judge_nonconforming_iff_late s.now
  have hpolice : s.PolicesAway f ↔ r.active.mode = .policeDrop ∧ late := and_congr_right fun _ => hlate
  have hde : (r.marked s.now c).de = true ↔ de :=
    (r.marked_de_iff s.now c).trans (or_congr_right (and_congr_right fun _ => hlate))
  have hshed : s.Sheds f c ↔ shed := by
    refine (s.buffer.sheds_iff _ _).trans (exists_congr fun l => ?_)
    rw [WaterLevel.sheds_iff]
    exact and_congr_right fun _ => or_congr_left (and_congr_right fun _ => hde)
  rw [← hpolice, ← hshed]
  refine ⟨fun hm hl => ?_, fun hp hs => ?_, fun hp hs hq => ?_, fun hp hs hq ho => ?_, fun hp hs hq ho => ?_⟩
  · have ha := State.admission_policed (hpolice.mpr ⟨hm, hl⟩) c
    exact ⟨ha, by rw [State.admitCell, ha]; rfl⟩
  · have ha := State.admission_shed hp hs
    exact ⟨ha, by rw [State.admitCell, ha]; rfl⟩
  · have ha := State.admission_queueFull hp hs hq
    exact ⟨ha, by rw [State.admitCell, ha]; rfl⟩
  · have ha := (State.admission_roomInQueue hp hs hq).trans (if_pos ho)
    exact ⟨ha, by rw [State.admitCell, ha]; rfl⟩
  · exact (State.admission_roomInQueue hp hs hq).trans (if_neg ho)

/-! ## The enqueue -/

/-- The record that an enqueue leaves: the cell joined, and the flow filed anew where its queue was empty or its contract was
promoted (R76, R77). -/
def FlowRecord.enqueued (r : FlowRecord) (now : Stamp) (slot : SlotNo) : FlowRecord :=
  if r.queue = [] ∨ (r.judge now = .conforming ∧ r.atBoundary = true) then (r.joined now slot).filed now else r.joined now slot

/-- Items 1 to 3 of R76: the cell stored with its mark and joined to the flow's queue, and counted. -/
def State.acceptCell (s : State) (f : FlowNo) (slot : SlotNo) (rest : List SlotNo) (c : StoredCell) : State :=
  (s.storeCell f slot rest ((s.flow f).marked s.now c)).countFlow f (FlowCounters.addEnqueued ((s.flow f).tags s.now c.de))

theorem State.enqueue_eq {s : State} {slot : SlotNo} {rest : List SlotNo} (h : s.buffer.freeList = slot :: rest) (f : FlowNo)
    (c : StoredCell) : s.enqueue f c = ((s.acceptCell f slot rest c).settle f (s.flow f)).raiseLevels := by
  rw [State.enqueue, h]
  rfl

theorem sameFlows_acceptCell (s : State) (f : FlowNo) (slot : SlotNo) (rest : List SlotNo) (c : StoredCell) :
    SameFlows (s.setFlow f { s.flow f with queue := (s.flow f).queue ++ [slot] }) (s.acceptCell f slot rest c) :=
  ⟨rfl, rfl, rfl, rfl, rfl⟩

@[simp] theorem State.acceptCell_frame (s : State) (f : FlowNo) (slot : SlotNo) (rest : List SlotNo) (c : StoredCell) :
    (s.acceptCell f slot rest c).buffer = s.buffer.store slot rest ((s.flow f).marked s.now c) ∧
    (s.acceptCell f slot rest c).notices = s.notices ∧ (s.acceptCell f slot rest c).time = s.time :=
  ⟨rfl, rfl, rfl⟩

/-- The notice of a due-time update is that of a cycle boundary (R18). -/
theorem State.dueUpdate_notices (s : State) (f : FlowNo) (t : Stamp) :
    (s.dueUpdate f t).notices = s.notices.postAll s.now ((s.flow f).boundaryPostings f) := by
  unfold State.dueUpdate FlowRecord.boundaryPostings
  dsimp only
  split_ifs <;> rfl

/-- A settling posts what the due-time update of a CONFORMING cell posts. -/
theorem State.settle_notices (v : State) (f : FlowNo) (r : FlowRecord) :
    (v.settle f r).notices =
      v.notices.postAll v.now (if r.judge v.now = .conforming then (v.flow f).boundaryPostings f else []) := by
  have hu : (if r.judge v.now = .conforming then v.dueUpdate f v.now else v).notices =
      v.notices.postAll v.now (if r.judge v.now = .conforming then (v.flow f).boundaryPostings f else []) := by
    split_ifs
    · exact v.dueUpdate_notices f v.now
    · rfl
  unfold State.settle
  simp only [decide_eq_true_eq]
  rw [← hu]
  split_ifs <;> simp

/-- An enqueue up to its level test: in `u` the cell has joined the flow's queue and the due time is updated, and the flow is then
placed where its queue was empty, and rescheduled where its contract was promoted (R77). -/
theorem State.enqueue_joins {s : State} {slot : SlotNo} {rest : List SlotNo} (h : s.buffer.freeList = slot :: rest) (f : FlowNo)
    (c : StoredCell) : ∃ u, SameFlows (s.setFlow f ((s.flow f).joined s.now slot)) u ∧
      SameFlows (if (s.flow f).queue = [] then u.place f
        else if (s.flow f).judge s.now = .conforming ∧ (s.flow f).atBoundary = true then u.reschedule f else u)
        (s.enqueue f c) := by
  have ev := sameFlows_acceptCell s f slot rest c
  obtain ⟨u, eu, es⟩ := (s.acceptCell f slot rest c).settle_eq f (s.flow f)
  have hnow : (s.acceptCell f slot rest c).now = s.now := rfl
  rw [ev.flow_of_setFlow, hnow] at eu
  rw [hnow] at es
  refine ⟨u, ?_, ?_⟩
  · have hj := (ev.setFlow f ((s.flow f).joined s.now slot)).trans eu
    rwa [State.setFlow_setFlow] at hj
  · rw [State.enqueue_eq h, ← es]
    constructor <;> simp

theorem SameFlows.flows_of_setFlow {s u : State} {f : FlowNo} {r : FlowRecord} (h : SameFlows (s.setFlow f r) u) :
    u.flows = s.flows.set f.val r f.isLt :=
  h.flows

/-- The record of the flow after an enqueue; the others are as they were. -/
theorem State.enqueue_flows {s : State} {slot : SlotNo} {rest : List SlotNo} (h : s.buffer.freeList = slot :: rest) (f : FlowNo)
    (c : StoredCell) :
    (s.enqueue f c).flows = s.flows.set f.val ((s.flow f).enqueued s.now slot) f.isLt := by
  obtain ⟨u, eu, e⟩ := State.enqueue_joins h f c
  have hflow : u.flow f = (s.flow f).joined s.now slot := eu.flow_of_setFlow
  have hnow : u.now = s.now := eu.now
  rw [e.flows, FlowRecord.enqueued]
  by_cases hq : (s.flow f).queue = []
  · rw [if_pos hq, if_pos (.inl hq), (u.place_does f).1, eu.flows_of_setFlow, hflow, hnow, State.flows_set_set]
  by_cases hp : (s.flow f).judge s.now = .conforming ∧ (s.flow f).atBoundary = true
  · rw [if_neg hq, if_pos hp, if_pos (.inr hp), u.reschedule_flows f, eu.flows_of_setFlow, hflow, hnow, State.flows_set_set]
  · rw [if_neg hq, if_neg hp, if_neg (not_or.mpr ⟨hq, hp⟩), eu.flows_of_setFlow]

theorem CellBuffer.store_level (b : CellBuffer) (slot : SlotNo) (rest : List SlotNo) (c : StoredCell) (l : Level) :
    (b.store slot rest c).level l = b.level l := by
  cases l <;> rfl

/-- The buffer after an enqueue: the cell stored, and the levels that O has come to raised. -/
theorem State.enqueue_buffer {s : State} {slot : SlotNo} {rest : List SlotNo} (h : s.buffer.freeList = slot :: rest) (f : FlowNo)
    (c : StoredCell) :
    (s.enqueue f c).buffer = (s.buffer.store slot rest ((s.flow f).marked s.now c)).withRaised
      fun l => (s.buffer.level l).raised || (s.buffer.store slot rest ((s.flow f).marked s.now c)).rises l := by
  rw [State.enqueue_eq h, State.raiseLevels_does]
  simp [CellBuffer.store_level]

/-- The notices of an enqueue: the promotion of a cycle boundary, then the levels raised (R18, R82). -/
theorem State.enqueue_notices {s : State} {slot : SlotNo} {rest : List SlotNo} (h : s.buffer.freeList = slot :: rest) (f : FlowNo)
    (c : StoredCell) :
    (s.enqueue f c).notices = s.notices.postAll s.now
      ((if (s.flow f).judge s.now = .conforming then (s.flow f).boundaryPostings f else []) ++
        risePostings (s.buffer.store slot rest ((s.flow f).marked s.now c)).rises) := by
  have hb : ((s.acceptCell f slot rest c).flow f).boundaryPostings f = (s.flow f).boundaryPostings f := by
    rw [(sameFlows_acceptCell s f slot rest c).flow_of_setFlow]
    rfl
  rw [State.enqueue_eq h, State.raiseLevels_does]
  simp only [State.settle_notices, hb, NoticeUnit.postAll_append, State.settle_frame, State.acceptCell_frame]
  rfl

theorem FlowCounters.addEnqueued_eq (tagged : Bool) (c : FlowCounters) : FlowCounters.addEnqueued tagged c =
    { c with accepted := c.accepted + 1, tagged := if tagged = true then c.tagged + 1 else c.tagged } := by
  cases tagged <;> rfl

theorem State.flowCounters_congr {s t : State} (h : s.counters = t.counters) (f : FlowNo) : s.flowCounters f = t.flowCounters f :=
  congrArg (fun b => b.flows.get f) h

theorem State.portCounters_congr {s t : State} (h : s.counters = t.counters) (p : Port) : s.portCounters p = t.portCounters p := by
  cases p with
  | T => exact congrArg CounterBank.portT h
  | F => exact congrArg CounterBank.portF h

/-- The counters of an enqueue: the flow's Accepted, and Tagged when POLICE_TAG gave the mark. -/
theorem State.enqueue_counters {s : State} {slot : SlotNo} {rest : List SlotNo} (h : s.buffer.freeList = slot :: rest) (f : FlowNo)
    (c : StoredCell) : (s.enqueue f c).counters =
      (s.setFlowCounters f (FlowCounters.addEnqueued ((s.flow f).tags s.now c.de) (s.flowCounters f))).counters := by
  rw [State.enqueue_eq h]
  simp only [State.raiseLevels_frame, State.settle_frame]
  rfl

theorem SameFlows.unmoved {s t : State} {f : FlowNo} {r : FlowRecord} (h : SameFlows (s.setFlow f r) t) : Unmoved s t :=
  ⟨h.ready, h.calendar⟩

/-- A flow refiled from a state in which its record alone has been written, and not where it stands, has been refiled from the
state before. -/
theorem Refiled.of_setFlow {s u t : State} {f : FlowNo} {r : FlowRecord} (h : Refiled u t f) (e : SameFlows (s.setFlow f r) u)
    (hs : r.sched = (s.flow f).sched) (hp : r.egressPort = (s.flow f).egressPort) (hq : r.priority = (s.flow f).priority)
    (hx : r.eligible = (s.flow f).eligible) : Refiled s t f := by
  obtain ⟨hr, hw⟩ := s.withouts_setFlow f hs hp hq hx
  refine ⟨fun p q => ?_, fun i => ?_⟩
  · rw [h.ready, State.readyWithout, e.flow f, e.readyList, ← hr]
    rfl
  · rw [h.waiting, State.slotWithout, e.flow f, e.calendarSlot, ← hw]
    rfl

theorem Refiled.same {s t t' : State} {f : FlowNo} (h : Refiled s t f) (e : SameFlows t t') : Refiled s t' f :=
  ⟨fun p q => by rw [e.readyList, e.flow f, h.ready], fun i => by rw [e.calendarSlot, e.flow f, h.waiting]⟩

/-- The joined flow, whose queue is not empty, stands where it stood. -/
theorem FlowRecord.StandsRight.joined {r : FlowRecord} (h : r.StandsRight) (hq : r.queue ≠ []) (now : Stamp) (slot : SlotNo) :
    (r.joined now slot).StandsRight := by
  obtain ⟨hl, -, -, hqueue, hs, -⟩ := r.joined_frame now slot
  obtain ⟨hempty, hheld⟩ := h
  have hne : (r.joined now slot).queue ≠ [] := by simp [hqueue]
  refine ⟨?_, ?_⟩
  · rw [hs, hempty]
    exact iff_of_false hq hne
  · rw [hs, hl, hheld]
    simp [hq, hne]

/-- The joined flow of an empty queue is filed in a scheduling state other than EMPTY. -/
theorem FlowRecord.joined_filed_sched_ne_empty (r : FlowRecord) (now : Stamp) (slot : SlotNo) :
    ((r.joined now slot).filed now).sched ≠ .empty := by
  obtain ⟨-, -, -, hqueue, -, -⟩ := r.joined_frame now slot
  show (r.joined now slot).becomes now ≠ .empty
  rw [FlowRecord.becomes, if_neg (by simp [hqueue])]
  split_ifs <;> exact fun e => nomatch e

/-- The flow has a new place: its queue was empty or its contract was promoted, and with it its scheduling state or its X has
changed (R17, R77). -/
def FlowRecord.Moves (r : FlowRecord) (now : Stamp) (slot : SlotNo) : Prop :=
  (r.queue = [] ∨ (r.judge now = .conforming ∧ r.atBoundary = true)) ∧
    ¬ ((r.enqueued now slot).sched = r.sched ∧
      ((r.enqueued now slot).sched = .waiting → (r.enqueued now slot).eligible = r.eligible))

/-- Where an enqueue leaves the flow: refiled where its record names a new place, and where it stood otherwise. -/
theorem State.enqueue_places {s : State} {slot : SlotNo} {rest : List SlotNo} (h : s.buffer.freeList = slot :: rest) {f : FlowNo}
    (hstands : (s.flow f).StandsRight) (c : StoredCell) :
    ((s.flow f).Moves s.now slot → Refiled s (s.enqueue f c) f) ∧
      (¬ (s.flow f).Moves s.now slot → Unmoved s (s.enqueue f c)) := by
  obtain ⟨u, eu, e⟩ := State.enqueue_joins h f c
  have hflow : u.flow f = (s.flow f).joined s.now slot := eu.flow_of_setFlow
  have hnow : u.now = s.now := eu.now
  obtain ⟨-, jp, jq, -, js, jx⟩ := (s.flow f).joined_frame s.now slot
  unfold FlowRecord.Moves
  by_cases hq : (s.flow f).queue = []
  · have hempty : (s.flow f).sched = .empty := hstands.1.mpr hq
    have hu : (u.flow f).sched = .empty := by rw [hflow, js, hempty]
    have hrefiled : Refiled u (u.place f) f := u.place_refiles f (by simp [hu]) (by simp [hu])
    rw [if_pos hq] at e
    rw [FlowRecord.enqueued, if_pos (.inl hq), hempty]
    exact ⟨fun _ => (hrefiled.of_setFlow eu js jp jq jx).same e,
      fun hm => absurd ⟨.inl hq, fun hk => (s.flow f).joined_filed_sched_ne_empty s.now slot hk.1⟩ hm⟩
  by_cases hp : (s.flow f).judge s.now = .conforming ∧ (s.flow f).atBoundary = true
  · obtain ⟨-, hstay, hmove⟩ := u.reschedule_does f (hflow ▸ hstands.joined hq s.now slot)
    rw [if_neg hq, if_pos hp] at e
    rw [hflow, hnow, js, jx] at hstay hmove
    rw [FlowRecord.enqueued, if_pos (.inr hp)]
    refine ⟨fun hm => ((hmove hm.2).of_setFlow eu js jp jq jx).same e, fun hm => ?_⟩
    obtain ⟨hr, hc⟩ := hstay (Decidable.not_not.mp fun hk => hm ⟨.inr hp, hk⟩)
    exact ⟨(e.ready.trans hr).trans eu.ready, (e.calendar.trans hc).trans eu.calendar⟩
  · rw [if_neg hq, if_neg hp] at e
    exact ⟨fun hm => absurd hm.1 (not_or.mpr ⟨hq, hp⟩), fun _ => (eu.trans e).unmoved⟩

/-- Settles O15: the parts of an enqueue, each by its own lemma. -/
theorem enqueueStoresUpdatesAndPlaces : Obligations.EnqueueStoresUpdatesAndPlaces := by
  intro s f c slot rest hqueued hfree hstands r conforming gave stored joined after placed final moved
  have hadmit : s.admitCell f c = s.enqueue f c := by rw [State.admitCell, hqueued]
  have htags : r.tags s.now c.de = decide gave := by
    rw [Bool.eq_iff_iff, decide_eq_true_iff]
    exact r.tags_iff s.now c.de
  have hstored : s.buffer.store slot rest (r.marked s.now c) = stored := by
    rw [FlowRecord.marked, htags]
    rfl
  have hcounters := State.enqueue_counters hfree f c
  have hbuffer := State.enqueue_buffer hfree f c
  have hnotices := State.enqueue_notices hfree f c
  rw [hstored] at hbuffer hnotices
  rw [htags] at hcounters
  obtain ⟨hmoved, hunmoved⟩ := State.enqueue_places hfree hstands c
  rw [hadmit]
  refine ⟨_, rfl, ?_, State.enqueue_flows hfree f c, hbuffer, hnotices, fun p => ?_, fun g hg => ?_, ?_, hmoved, hunmoved⟩
  · apply State.eq_of_fields <;> simp
  · exact (State.portCounters_congr hcounters p).trans (s.portCounters_setFlowCounters f _ p)
  · exact (State.flowCounters_congr hcounters g).trans (s.flowCounters_setFlowCounters_other f g _ hg)
  · rw [State.flowCounters_congr hcounters f, State.flowCounters_setFlowCounters_self, FlowCounters.addEnqueued_eq]
    simp only [decide_eq_true_eq]

end Sys2Proof.Machine

namespace Sys2Proof.Machine

/-! ## What a step can do to the cell slots -/

/-- What the pool law reads of a flow record is the same in both: the queue, its limit, and whether the flow is UNUSED. -/
structure FlowRecord.SameCells (r r' : FlowRecord) : Prop where
  queue : r'.queue = r.queue
  limit : r'.queueLimit = r.queueLimit
  unused : r'.lifecycle = .unused ↔ r.lifecycle = .unused

theorem FlowRecord.SameCells.refl (r : FlowRecord) : r.SameCells r := ⟨rfl, rfl, .rfl⟩

theorem FlowRecord.SameCells.trans {r r' r'' : FlowRecord} (h : r.SameCells r') (k : r'.SameCells r'') : r.SameCells r'' :=
  ⟨k.queue.trans h.queue, k.limit.trans h.limit, k.unused.trans h.unused⟩

/-- Every flow of `t` has the queue that it has in `s`. -/
def QueuesKept (s t : State) : Prop :=
  ∀ f, (s.flow f).SameCells (t.flow f)

theorem QueuesKept.refl (s : State) : QueuesKept s s := fun _ => .refl _

theorem QueuesKept.trans {s t u : State} (h : QueuesKept s t) (k : QueuesKept t u) : QueuesKept s u :=
  fun f => (h f).trans (k f)

theorem queuesKept_of_flows {s t : State} (h : t.flows = s.flows) : QueuesKept s t :=
  fun f => State.flow_congr h f ▸ .refl _

/-- The buffer after the slots have come back and the levels have been tested (R79, R83). -/
def CellBuffer.afterReturn (b : CellBuffer) (slots : List SlotNo) : CellBuffer :=
  (b.giveBack slots).withRaised fun l => (b.level l).raised && !b.fallsOnReturn slots l

/-- The buffer after a cell has been stored and the levels have been tested (R76, R82). -/
def CellBuffer.afterStore (b : CellBuffer) (slot : SlotNo) (rest : List SlotNo) (c : StoredCell) : CellBuffer :=
  (b.store slot rest c).withRaised fun l => (b.level l).raised || (b.store slot rest c).rises l

/-- The thresholds and the hysteresis of both buffers are the same. -/
structure CellBuffer.SameSettings (b b' : CellBuffer) : Prop where
  threshold : ∀ l, (b'.level l).threshold = (b.level l).threshold
  hysteresis : b'.hysteresis = b.hysteresis

/-- One thing that a command does to the cell slots, the queues and the watermark levels. A cell is enqueued only on a flow whose
record satisfies `mapped`. -/
inductive CellEffect (mapped : FlowRecord → Prop) (s t : State) : Prop
  /-- Nothing. -/
  | kept (buffer : t.buffer = s.buffer) (queues : QueuesKept s t)
  /-- A cell joins the queue of `f` (R76). -/
  | enqueued {f : FlowNo} {slot : SlotNo} {rest : List SlotNo} {c : StoredCell} (free : s.buffer.freeList = slot :: rest)
      (flow : mapped (s.flow f)) (room : (s.flow f).queue.length < (s.flow f).queueLimit)
      (buffer : t.buffer = s.buffer.afterStore slot rest c)
      (queues : QueuesKept (s.setFlow f { s.flow f with queue := (s.flow f).queue ++ [slot] }) t)
  /-- The slots at the head of the queue of `f`, if any, come back, and the flow, without cells, may be closed (R35, R36, R79). -/
  | returned {f : FlowNo} {slots : List SlotNo} {r : FlowRecord} (queue : (s.flow f).queue = slots ++ r.queue)
      (limit : r.queueLimit = (s.flow f).queueLimit)
      (closed : r.lifecycle = .unused → (s.flow f).lifecycle = .unused ∨ r.queue = [])
      (buffer : t.buffer = s.buffer.afterReturn slots) (queues : QueuesKept (s.setFlow f r) t)
  /-- The UNUSED flow `f` is opened (R27). -/
  | opened {f : FlowNo} {r : FlowRecord} (unused : (s.flow f).lifecycle = .unused) (queue : r.queue = [])
      (limit : 1 ≤ r.queueLimit ∧ r.queueLimit ≤ 64) (buffer : t.buffer = s.buffer) (queues : QueuesKept (s.setFlow f r) t)
  /-- New settings (R84). -/
  | settings {w : WaterSettings} (legal : w.legal = true)
      (buffer : t.buffer = (s.buffer.withSettings w).withRaised (s.buffer.withSettings w).shouldRaise) (queues : QueuesKept s t)
  /-- The peak starts again from O (R69). -/
  | peakRead (buffer : t.buffer = { s.buffer with peak := s.buffer.occupancy }) (queues : QueuesKept s t)
  /-- A reset, which keeps the settings or gives them their power-on values (R70). -/
  | reset (datapath : DatapathReset t)
      (settings : s.buffer.SameSettings t.buffer ∨ CellBuffer.reset.SameSettings t.buffer)

/-- Cell effects, one after another. -/
abbrev CellRun (mapped : FlowRecord → Prop) : State → State → Prop :=
  Relation.ReflTransGen (CellEffect mapped)

section
variable {mapped : FlowRecord → Prop}

theorem CellEffect.run {s t : State} (h : CellEffect mapped s t) : CellRun mapped s t := .single h

theorem cellRun_of_kept {s t : State} (hb : t.buffer = s.buffer) (hq : QueuesKept s t) : CellRun mapped s t :=
  (CellEffect.kept hb hq).run

theorem cellRun_of_flows {s t : State} (hb : t.buffer = s.buffer) (hf : t.flows = s.flows) : CellRun mapped s t :=
  cellRun_of_kept hb (queuesKept_of_flows hf)

/-- A property that each cell effect keeps is kept by a run of them. -/
theorem CellRun.keeps {I : State → Prop} (hI : ∀ {s t}, I s → CellEffect mapped s t → I t) {s t : State} (h : I s)
    (r : CellRun mapped s t) : I t := by
  induction r with
  | refl => exact h
  | tail _ e ih => exact hI ih e

end

/-! ### The queues under placement, updates and ticks -/

/-- One record rewritten, its queue kept. -/
theorem queuesKept_of_flow {s t : State} {f : FlowNo} {r : FlowRecord} (h : ∀ g, t.flow g = if g = f then r else s.flow g)
    (hr : (s.flow f).SameCells r) : QueuesKept s t := fun g => by
  rw [h g]
  split_ifs with hg
  · exact hg ▸ hr
  · exact .refl _

theorem queuesKept_setFlow {s : State} {f : FlowNo} {r : FlowRecord} (hr : (s.flow f).SameCells r) : QueuesKept s (s.setFlow f r) :=
  queuesKept_of_flow (s.flow_setFlow f · r) hr

theorem SameFlows.queuesKept {s t : State} (h : SameFlows s t) : QueuesKept s t :=
  queuesKept_of_flows h.flows

theorem SameFlows.queuesKept_of_setFlow {s t : State} {f : FlowNo} {r : FlowRecord} (h : SameFlows (s.setFlow f r) t)
    (hr : (s.flow f).SameCells r) : QueuesKept s t :=
  (queuesKept_setFlow hr).trans h.queuesKept

theorem FlowRecord.sameCells_filed (r : FlowRecord) (now : Stamp) : r.SameCells (r.filed now) := ⟨rfl, rfl, .rfl⟩

theorem FlowRecord.sameCells_promote (r : FlowRecord) : r.SameCells r.promote := by
  unfold FlowRecord.promote
  split <;> exact ⟨rfl, rfl, .rfl⟩

theorem FlowRecord.sameCells_updated (r : FlowRecord) (now : Stamp) : r.SameCells (r.updated now) := by
  have hd : r.SameCells (r.dueUpdate now) := ⟨rfl, rfl, .rfl⟩
  unfold FlowRecord.updated
  split_ifs
  · exact hd.trans (FlowRecord.sameCells_promote _)
  · exact hd

theorem FlowRecord.sameCells_swept (r : FlowRecord) (now : Stamp) : r.SameCells (r.swept now) := by
  unfold FlowRecord.swept
  split_ifs <;> exact ⟨rfl, rfl, .rfl⟩

/-- An enqueue leaves the flow with its cell joined. -/
theorem FlowRecord.sameCells_enqueued (r : FlowRecord) (now : Stamp) (slot : SlotNo) :
    ({ r with queue := r.queue ++ [slot] } : FlowRecord).SameCells (r.enqueued now slot) := by
  have hj : ({ r with queue := r.queue ++ [slot] } : FlowRecord).SameCells (r.joined now slot) := by
    unfold FlowRecord.joined
    split_ifs
    · exact FlowRecord.sameCells_updated _ now
    · exact .refl _
  unfold FlowRecord.enqueued
  split_ifs
  · exact hj.trans (FlowRecord.sameCells_filed _ now)
  · exact hj

theorem queuesKept_place (s : State) (f : FlowNo) : QueuesKept s (s.place f) :=
  queuesKept_of_flow (s.place_flow f) ((s.flow f).sameCells_filed s.now)

theorem queuesKept_reschedule (s : State) (f : FlowNo) : QueuesKept s (s.reschedule f) :=
  queuesKept_of_flow (s.reschedule_flow f) ((s.flow f).sameCells_filed s.now)

theorem queuesKept_promoteNow (s : State) (f : FlowNo) : QueuesKept s (s.promoteNow f) :=
  (queuesKept_setFlow (s.flow f).sameCells_promote).trans (queuesKept_reschedule _ f)

theorem queuesKept_serviceCalendar (s : State) : QueuesKept s s.serviceCalendar := fun g => by
  rw [State.serviceCalendar_flow]
  split_ifs
  · exact ⟨rfl, rfl, .rfl⟩
  · exact .refl _

theorem queuesKept_sweepVisit (s : State) (f : FlowNo) : QueuesKept s (s.sweepVisit f) :=
  queuesKept_of_flow (s.sweepVisit_flow f) ((s.flow f).sameCells_swept s.now)

theorem queuesKept_tick (s : State) : QueuesKept s s.tick := by
  unfold State.tick
  split_ifs
  · exact .refl s
  · have hnow : QueuesKept s (s.withTime s.time.tick) := queuesKept_of_flows rfl
    exact (hnow.trans (queuesKept_serviceCalendar _)).trans (queuesKept_sweepVisit _ _)

theorem queuesKept_departureArithmetic (s : State) (f : FlowNo) : QueuesKept s (s.departureArithmetic f) := by
  refine (sameFlows_departureArithmetic s f).queuesKept_of_setFlow ?_
  split_ifs
  · exact (s.flow f).sameCells_updated s.now
  · exact .refl _

theorem queuesKept_setContract (s : State) (f : FlowNo) (c : Contract) : QueuesKept s (s.setContract f c).state := by
  have hp : QueuesKept s (s.setFlow f { s.flow f with pending := some c }) := queuesKept_setFlow ⟨rfl, rfl, .rfl⟩
  unfold State.setContract
  dsimp only
  split_ifs
  · exact hp.trans (queuesKept_promoteNow _ f)
  · exact hp
  · exact hp

/-- A suspension is asked for of an OPEN flow alone (R28). -/
theorem queuesKept_suspend {s : State} {f : FlowNo} (h : (s.flow f).lifecycle = .opened) : QueuesKept s (s.suspend f) := by
  have hu : QueuesKept s (s.unschedule f) := queuesKept_of_flows (by simp)
  refine hu.trans ((sameFlows_suspend s f).queuesKept_of_setFlow ?_)
  rw [State.unschedule_flow]
  exact ⟨rfl, rfl, iff_of_false (fun e => nomatch e) (by simp [h])⟩

/-- A resume is asked for of a SUSPENDED flow alone (R29, R30). -/
theorem queuesKept_resume {s : State} {f : FlowNo} (h : (s.flow f).lifecycle = .suspended) (restart : Bool) :
    QueuesKept s (s.resume f restart) := by
  have hw : (s.flow f).SameCells ((s.flow f).resumed restart s.now) := by
    cases restart <;> exact ⟨rfl, rfl, iff_of_false (fun e => nomatch e) (by simp [h])⟩
  exact (queuesKept_setFlow hw).trans (queuesKept_place _ f)

theorem queuesKept_startDrain {s : State} {f : FlowNo} (h : (s.flow f).lifecycle = .opened) : QueuesKept s (s.startDrain f) :=
  (sameFlows_startDrain s f).queuesKept_of_setFlow ⟨rfl, rfl, iff_of_false (fun e => nomatch e) (by simp [h])⟩

/-! ### Returns of slots -/

theorem CellBuffer.afterReturn_nil (b : CellBuffer) : b.afterReturn [] = b := by
  have hn : ∀ l, b.fallsOnReturn [] l = false := fun _ => rfl
  simp only [CellBuffer.afterReturn, hn, Bool.not_false, Bool.and_true]
  exact b.giveBack_nil

theorem State.returnSlots_buffer (s : State) (slots : List SlotNo) : (s.returnSlots slots).buffer = s.buffer.afterReturn slots := by
  rw [State.returnSlots_does]
  rfl

/-- The taking of a head cell is a return of its slot (R97). -/
theorem State.takeHead_eq_returnSlots (s : State) (p : Port) (q : Priority) (f : FlowNo) (slot : SlotNo) (rest : List SlotNo) :
    s.takeHead p q f slot rest =
      ((s.setReadyList p q (s.readyList p q).tail).setFlow f { s.flow f with queue := rest }).returnSlots [slot] := by
  rw [State.returnSlots, if_neg (List.cons_ne_nil _ _)]
  cases p <;> rfl

section
variable {mapped : FlowRecord → Prop}

/-- A flow without cells is closed. -/
theorem cellEffect_closed {s t : State} {f : FlowNo} {r : FlowRecord} (hq : (s.flow f).queue = []) (hr : r.queue = [])
    (hl : r.queueLimit = (s.flow f).queueLimit) (e : SameFlows (s.setFlow f r) t) (hb : t.buffer = s.buffer) :
    CellEffect mapped s t :=
  .returned (slots := []) (hq.trans hr.symm) hl (fun _ => .inr hr) (hb.trans s.buffer.afterReturn_nil.symm) e.queuesKept

theorem cellEffect_takeHead {s : State} (p : Port) (q : Priority) {f : FlowNo} {slot : SlotNo} {rest : List SlotNo}
    (hq : (s.flow f).queue = slot :: rest) : CellEffect mapped s (s.takeHead p q f slot rest) := by
  rw [State.takeHead_eq_returnSlots]
  refine .returned (f := f) (slots := [slot]) (r := { s.flow f with queue := rest }) hq rfl .inl ?_ (queuesKept_of_flows ?_)
  · simp [State.returnSlots_buffer]
  · simp

theorem cellEffect_flush (s : State) (f : FlowNo) : CellEffect mapped s (s.flush f) := by
  have hb : (s.flush f).buffer = s.buffer.afterReturn (s.flow f).queue := by
    rw [State.flush_does]
    exact s.emptied_buffer f
  have hu : QueuesKept (s.setFlow f (s.flow f).flushed) ((s.unschedule f).setFlow f (s.flow f).flushed) :=
    queuesKept_of_flows (by simp)
  exact .returned (r := (s.flow f).flushed) (List.append_nil _).symm rfl (fun _ => .inr rfl) hb
    (hu.trans (sameFlows_flush s f).queuesKept)

theorem cellRun_afterDeparture (s : State) (f : FlowNo) : CellRun mapped s (s.afterDeparture f) := by
  unfold State.afterDeparture
  split_ifs with hd
  · exact (cellEffect_closed (r := { s.flow f with sched := .empty, lifecycle := .unused }) hd.1 hd.1 rfl
      (sameFlows_finishDrain s f) rfl).run
  · exact cellRun_of_kept (by simp) (queuesKept_place s f)

theorem cellRun_depart (s : State) (p : Port) (q : Priority) (f : FlowNo) : CellRun mapped s (s.depart p q f) := by
  unfold State.depart
  cases hq : (s.flow f).queue with
  | nil => exact cellRun_of_flows (by simp) (by simp)
  | cons slot rest =>
    have hsent : ∀ c, CellRun mapped s (s.transmit p c) := fun c => cellRun_of_flows (by simp) (by simp)
    have htaken : ∀ c, CellRun mapped (s.transmit p c) ((s.transmit p c).takeHead p q f slot rest) := fun c =>
      (cellEffect_takeHead p q ((congrArg FlowRecord.queue ((sameFlows_transmit s p c).flow f)).trans hq)).run
    have hcounted : ∀ v : State, CellRun mapped v ((v.countFlow f FlowCounters.addSent).countPort p PortCounters.addSent) :=
      fun v => cellRun_of_flows (by simp) (by simp)
    have harith : ∀ v : State, CellRun mapped v (v.departureArithmetic f) := fun v =>
      cellRun_of_kept (by simp) (queuesKept_departureArithmetic v f)
    exact ((((hsent _).trans (htaken _)).trans (hcounted _)).trans (harith _)).trans (cellRun_afterDeparture _ f)

theorem cellRun_egress (s : State) (p : Port) : CellRun mapped s (s.egress p) := by
  unfold State.egress State.openSlot
  split_ifs
  · cases s.slotChoice p with
    | response r rest => exact cellRun_of_flows (by simp) (by simp)
    | notice r => exact cellRun_of_flows (by simp) (by simp)
    | departure q f => exact cellRun_depart s p q f
    | idle => exact cellRun_of_flows (by simp) (by simp)
  · exact .refl

/-! ### Arrivals -/

/-- An admission that ends in the enqueue has found room in the flow's queue (R74). -/
theorem State.room_of_queued {s : State} {f : FlowNo} {c : StoredCell} (h : s.admission f c = .queued) :
    (s.flow f).queue.length < (s.flow f).queueLimit := by
  by_contra hn
  have hfull : (s.flow f).queueLimit ≤ (s.flow f).queue.length := Nat.not_lt.mp hn
  unfold State.admission at h
  dsimp only at h
  split_ifs at h

theorem cellEffect_admitCell {s : State} {f : FlowNo} (hm : mapped (s.flow f)) (c : StoredCell) :
    CellEffect mapped s (s.admitCell f c) := by
  unfold State.admitCell
  cases ha : s.admission f c with
  | discardedPolice => exact .kept rfl (queuesKept_of_flows rfl)
  | discardedShed => exact .kept rfl (queuesKept_of_flows rfl)
  | discardedQueue => exact .kept rfl (queuesKept_of_flows rfl)
  | discardedPool => exact .kept rfl (queuesKept_of_flows rfl)
  | queued =>
    obtain ⟨slot, rest, hfree⟩ := List.exists_cons_of_ne_nil (State.freeList_of_queued ha)
    have hq : QueuesKept (s.setFlow f { s.flow f with queue := (s.flow f).queue ++ [slot] }) (s.enqueue f c) := by
      refine queuesKept_of_flow (f := f) (r := (s.flow f).enqueued s.now slot) (fun g => ?_) ?_
      · rw [State.flow_of_flows_set (State.enqueue_flows hfree f c), State.flow_setFlow]
        split_ifs <;> rfl
      · rw [State.flow_setFlow_self]
        exact FlowRecord.sameCells_enqueued _ _ _
    exact .enqueued hfree hm (State.room_of_queued ha) (State.enqueue_buffer hfree f c) hq

theorem cellRun_receive {s : State} (p : Port) (c : Cell) (hm : ∀ ch f, s.lookup p ch = some f → mapped (s.flow f)) :
    CellRun mapped s (s.receive p c) := by
  have counted (u : State) (g) : CellRun mapped u (u.countPort p g) := cellRun_of_flows (by simp) (by simp)
  have received := counted s PortCounters.addReceived
  unfold State.receive
  split_ifs
  · dsimp only
    cases classify p c with
    | idle => exact .refl
    | misdirected => exact received.trans (counted _ _)
    | request => exact received.trans (cellRun_of_flows (by simp) (by simp))
    | user ch de =>
      dsimp only
      cases hl : s.lookup p ch with
      | none => exact received.trans (counted _ _)
      | some f =>
        have hf := (sameFlows_countPort s p PortCounters.addReceived).flow f
        have admitted : CellRun mapped _ ((s.countPort p PortCounters.addReceived).admitCell f (c.stored de)) :=
          (cellEffect_admitCell (hf ▸ hm ch f hl) _).run
        exact (received.trans admitted).trans (cellRun_of_flows (by simp [State.deliver]) (by simp [State.deliver]))
  · exact (counted _ _).trans (cellRun_of_flows rfl rfl)

theorem cellRun_arrive {s : State} (p : Port) (cell : List Byte)
    (hm : ∀ p ch f, s.map.activeBank.entry p ch = some f → mapped (s.flow f)) : CellRun mapped s (s.arrive p cell) := by
  unfold State.arrive
  split_ifs
  · exact cellRun_receive p _ (hm p)
  · exact .refl

/-! ### Time and links -/

theorem cellRun_tick (s : State) : CellRun mapped s s.tick :=
  cellRun_of_kept (by simp) (queuesKept_tick s)

theorem cellRun_clockPeriod (s : State) : CellRun mapped s s.clockPeriod := by
  unfold State.clockPeriod
  split_ifs
  · exact .refl
  · exact cellRun_tick s
  · exact cellRun_of_flows rfl rfl

theorem cellRun_follow (s : State) (p : Port) : CellRun mapped s (s.follow p) := by
  unfold State.follow
  split_ifs
  · exact cellRun_of_flows (by simp) (by simp)
  · exact .refl

theorem cellRun_releaseReset (s : State) (first : Port) : CellRun mapped s (s.releaseReset first) := by
  unfold State.releaseReset
  split_ifs
  · have hr : CellRun mapped s { s with resetHeld := false } := cellRun_of_flows rfl rfl
    exact (hr.trans (cellRun_follow _ first)).trans (cellRun_follow _ (otherPort first))
  · exact .refl

theorem cellEffect_holdReset (s : State) : CellEffect mapped s s.holdReset :=
  .reset (datapathReset_holdReset s) (.inr ⟨fun l => by cases l <;> rfl, rfl⟩)

/-- SOFT_RESET keeps the settings of the levels (R70). -/
theorem cellEffect_softReset (s : State) : CellEffect mapped s (s.softReset.withMgmt s.mgmt) :=
  .reset (datapathReset_softReset s s.mgmt)
    (.inl ⟨fun l => by rw [State.softReset_withMgmt_level], State.softReset_withMgmt_hysteresis s s.mgmt⟩)

/-! ### The requests -/

theorem within_le {lo hi n m : Nat} (h : within lo hi n = some m) : lo ≤ m ∧ m ≤ hi := by
  unfold within at h
  split_ifs at h with hc
  cases h
  exact hc

theorem cellRun_openFlow (s : State) (r : Payload) : CellRun mapped s (runOpenFlow r s).state :=
  withFlow_keeps .refl fun _ => checked_keeps .refl fun _ _ => checked_keeps .refl fun _ _ => checked_keeps .refl fun _ _ =>
    checked_keeps .refl fun _ hlim => checked_keeps .refl fun _ _ => require_keeps .refl fun hu =>
      CellEffect.run (.opened (of_decide_eq_true hu) rfl (within_le hlim) rfl (queuesKept_of_flows rfl))

theorem State.setContract_buffer (s : State) (f : FlowNo) (c : Contract) : (s.setContract f c).state.buffer = s.buffer := by
  unfold State.setContract
  dsimp only
  split_ifs <;> simp [okReply, acceptReply]

theorem cellRun_setContract (s : State) (r : Payload) : CellRun mapped s (runSetContract r s).state :=
  withFlow_keeps .refl fun f => require_keeps .refl fun _ => checked_keeps .refl fun c _ =>
    cellRun_of_kept (s.setContract_buffer f c) (queuesKept_setContract s f c)

theorem cellRun_commitContract (s : State) (r : Payload) : CellRun mapped s (runCommitContract r s).state :=
  withFlow_keeps .refl fun f => require_keeps .refl fun _ => require_keeps .refl fun _ =>
    cellRun_of_kept (by simp [okReply]) (queuesKept_promoteNow s f)

theorem cellRun_suspendFlow (s : State) (r : Payload) : CellRun mapped s (runSuspendFlow r s).state :=
  withFlow_keeps .refl fun _ => require_keeps .refl fun ho =>
    cellRun_of_kept (by simp [okReply]) (queuesKept_suspend (of_decide_eq_true ho))

theorem cellRun_resumeFlow (s : State) (r : Payload) : CellRun mapped s (runResumeFlow r s).state := by
  refine withFlow_keeps .refl fun f => checked_keeps .refl fun restart _ => require_keeps .refl fun hs => ?_
  dsimp only [okReply]
  rw [s.resume_eq f restart]
  exact cellRun_of_kept (by simp [State.resume]) (queuesKept_resume (of_decide_eq_true hs) restart)

theorem cellRun_closeDrain (s : State) (f : FlowNo) : CellRun mapped s (s.closeDrain f).state := by
  unfold State.closeDrain
  cases hl : (s.flow f).lifecycle with
  | opened =>
    dsimp only
    split_ifs with hq
    · exact (cellEffect_closed (r := { s.flow f with lifecycle := .unused, pending := none }) hq hq rfl
        (sameFlows_closeEmpty s f) (by simp)).run
    · exact cellRun_of_kept (by simp [acceptReply]) (queuesKept_startDrain hl)
  | unused => exact .refl
  | suspended => exact .refl
  | draining => exact .refl

theorem cellRun_closeFlush (s : State) (f : FlowNo) : CellRun mapped s (s.closeFlush f).state := by
  by_cases hl : (s.flow f).lifecycle = .unused
  · rw [State.closeFlush, hl]
    exact .refl
  · rw [State.closeFlush_of_used hl]
    exact (cellEffect_flush s f).run

theorem cellRun_closeFlow (s : State) (r : Payload) : CellRun mapped s (runCloseFlow r s).state := by
  refine withFlow_keeps .refl fun f => checked_keeps .refl fun flush _ => require_keeps .refl fun _ => ?_
  cases flush with
  | false => exact cellRun_closeDrain s f
  | true => exact cellRun_closeFlush s f

theorem cellRun_swapMap (s : State) (r : Payload) : CellRun mapped s (runSwapMap r s).state := by
  unfold runSwapMap
  split
  next => exact .refl
  next => exact cellRun_of_flows rfl rfl

/-- The re-evaluation after new settings raises exactly the levels whose threshold O has reached (R84). -/
theorem State.reviseLevels_buffer (s : State) : s.reviseLevels.buffer = s.buffer.withRaised s.buffer.shouldRaise := by
  have h (b : CellBuffer) (l k : Level) (r : Bool) : (b.setRaised l r).shouldRaise k = b.shouldRaise k := by
    cases l <;> cases k <;> rfl
  have hand (a b : Bool) : ((a || b) && b) = b := by cases a <;> cases b <;> rfl
  simp only [State.reviseLevels, State.reviseUp_does, State.reviseDown_does, h, CellBuffer.level_setRaised, reduceCtorEq, if_true,
    if_false, hand]
  rfl

theorem cellRun_setWatermarks (s : State) (r : Payload) : CellRun mapped s (runSetWatermarks r s).state :=
  checked_keeps .refl fun w _ => require_keeps .refl fun hw =>
    (CellEffect.settings hw (State.reviseLevels_buffer (s.withBuffer (s.buffer.withSettings w)))
      (queuesKept_of_flows (by simp))).run

theorem cellRun_readCounters (s : State) (r : Payload) : CellRun mapped s (runReadCounters r s).state := by
  refine checked_keeps .refl fun port _ => ?_
  cases port with
  | true =>
    refine checked_keeps .refl fun p _ => checked_keeps .refl fun clear _ => ?_
    cases clear with
    | true => exact cellRun_of_flows (by simp [State.readPortCounters, okReply]) (by simp [State.readPortCounters, okReply])
    | false => exact .refl
  | false =>
    refine withFlow_keeps .refl fun f => checked_keeps .refl fun clear _ => ?_
    cases clear with
    | true => exact cellRun_of_flows rfl rfl
    | false => exact .refl

theorem cellRun_startProbe (s : State) (r : Payload) : CellRun mapped s (runStartProbe r s).state := by
  refine checked_keeps .refl fun n _ => ?_
  split_ifs
  · exact cellRun_of_flows (by simp [okReply]) (by simp [okReply])
  · exact withFlow_keeps .refl fun f => require_keeps .refl fun _ => require_keeps .refl fun _ => cellRun_of_flows rfl rfl

/-- A taking does to the cells what the request's own effect does: the Management Engine has no part of them. -/
theorem cellRun_take {mine : Byte → Bool} {run : Payload → State → Reply} (s : State)
    (hrun : ∀ u r, CellRun mapped u (run r u).state) : CellRun mapped s (s.take mine run) := by
  rcases take_cases s mine run with e | ⟨r, rest, -, -, -, ⟨-, e⟩ | ⟨x, -, e⟩⟩ <;> rw [e]
  · have hd : CellRun mapped s (s.dequeue rest) := cellRun_of_flows rfl rfl
    exact (hd.trans (hrun _ r)).trans (cellRun_of_flows rfl rfl)
  · exact cellRun_of_flows rfl rfl

/-! ### Every command, and every step -/

/-- A row that names a part of an event is that event or nothing (log entry 5). -/
theorem CellRun.ite {s t : State} {c : Bool} (h : CellRun mapped s t) : CellRun mapped s (if c then t else s) :=
  iteInduction (motive := CellRun mapped s) (fun _ => h) fun _ => .refl

theorem exec_cellRun {s t : State} {i : Instr} (hm : ∀ p ch f, s.map.activeBank.entry p ch = some f → mapped (s.flow f))
    (e : exec i s = .next t) : CellRun mapped s t := by
  have next : ∀ {u : State}, CellRun mapped s u → (.next u : Host.Outcome State Fault Refusal) = .next t →
      CellRun mapped s t := by
    rintro u hu ⟨⟩
    exact hu
  cases i with
  | arrival p cell => exact next (cellRun_arrive p cell hm) e
  | probeCompletion p cell => exact next (cellRun_arrive p cell hm).ite e
  | cycleBoundaryPromotion ev =>
    cases ev with
    | arrival p cell => exact next (cellRun_arrive p cell hm).ite e
    | slot p => exact next (cellRun_egress s p).ite e
  | tick => exact next (cellRun_tick s) e
  | calendarService => exact next (cellRun_tick s).ite e
  | egressSlot p => exact next (cellRun_egress s p) e
  | drainCompletion p => exact next (cellRun_egress s p).ite e
  | lineOkAssertion p => exact next (cellRun_of_flows (by simp) (by simp)) e
  | lineOkDeassertion p => exact next (cellRun_of_flows (by simp) (by simp)) e
  | resetAssertion => exact next (cellEffect_holdReset s).run e
  | resetRelease first => exact next (cellRun_releaseReset s first) e
  | sync => exact next (cellRun_take s fun _ _ => .refl) e
  | readTime => exact next (cellRun_take s fun _ _ => .refl) e
  | setTimebase =>
    exact next (cellRun_take s fun _ _ => checked_keeps .refl fun _ _ => require_keeps .refl fun _ => cellRun_of_flows rfl rfl) e
  | openFlow => exact next (cellRun_take s cellRun_openFlow) e
  | setContract => exact next (cellRun_take s cellRun_setContract) e
  | commitContract => exact next (cellRun_take s cellRun_commitContract) e
  | suspendFlow => exact next (cellRun_take s cellRun_suspendFlow) e
  | resumeFlow => exact next (cellRun_take s cellRun_resumeFlow) e
  | closeFlow => exact next (cellRun_take s cellRun_closeFlow) e
  | readFlow => exact next (cellRun_take s fun _ _ => withFlow_keeps .refl fun _ => checked_keeps .refl fun _ _ => .refl) e
  | prepareMap => exact next (cellRun_take s fun _ _ => checked_keeps .refl fun _ _ => cellRun_of_flows rfl rfl) e
  | writeMap =>
    exact next (cellRun_take s fun _ _ => checked_keeps .refl fun _ _ => checked_keeps .refl fun _ _ =>
      checked_keeps .refl fun _ _ => require_keeps .refl fun _ => checked_keeps .refl fun _ _ => cellRun_of_flows rfl rfl) e
  | readMap =>
    exact next (cellRun_take s fun _ _ => checked_keeps .refl fun _ _ => checked_keeps .refl fun _ _ =>
      checked_keeps .refl fun _ _ => checked_keeps .refl fun _ _ => require_keeps .refl fun _ => .refl) e
  | swapMap => exact next (cellRun_take s cellRun_swapMap) e
  | setWatermarks => exact next (cellRun_take s cellRun_setWatermarks) e
  | readPool => exact next (cellRun_take s fun _ _ => CellEffect.run (.peakRead rfl (queuesKept_of_flows rfl))) e
  | readCounters => exact next (cellRun_take s cellRun_readCounters) e
  | startProbe => exact next (cellRun_take s cellRun_startProbe) e
  | readProbe => exact next (cellRun_take s fun _ _ => .refl) e
  | grantNotices => exact next (cellRun_take s fun _ _ => checked_keeps .refl fun _ _ => cellRun_of_flows rfl rfl) e
  | setNoticeEnable => exact next (cellRun_take s fun _ _ => checked_keeps .refl fun _ _ => cellRun_of_flows rfl rfl) e
  | softReset => exact next (cellRun_take s fun u _ => (cellEffect_softReset u).run) e
  | unknownRequest => exact next (cellRun_take s fun _ _ => .refl) e

/-- Everything a step does to the cells is a run of cell effects, when the flows that the Active bank names satisfy `mapped`. -/
theorem step_cellRun {s t : State} (hm : ∀ p ch f, s.map.activeBank.entry p ch = some f → mapped (s.flow f))
    (e : Machine.step s = .next t) : CellRun mapped s t := by
  cases hp : s.pending with
  | nil =>
    rw [step_of_idle hp] at e
    cases e
    exact cellRun_clockPeriod s
  | cons c rest =>
    rw [step_of_queued hp] at e
    have hq : CellRun mapped s { s with pending := rest } := cellRun_of_flows rfl rfl
    exact hq.trans (exec_cellRun (s := { s with pending := rest }) hm e)

end

end Sys2Proof.Machine

namespace Sys2Proof.Machine

/-! ## The law of the pool -/

theorem State.flows_toList (s : State) : s.flows.toList = (List.finRange 256).map s.flow := by
  refine List.ext_getElem (by simp) fun i _ _ => ?_
  simp [State.flow, Vector.get_eq_getElem]

/-- The slots in the queues of all flows, flow by flow. -/
theorem State.queuedSlots_eq (s : State) :
    s.flows.toList.flatMap FlowRecord.queue = (List.finRange 256).flatMap fun g => (s.flow g).queue := by
  rw [s.flows_toList, List.flatMap_map]

/-- The slots in the queues of the flows other than `f`. -/
def State.slotsOfOthers (s : State) (f : FlowNo) : List SlotNo :=
  ((List.finRange 256).erase f).flatMap fun g => (s.flow g).queue

theorem State.queuedSlots_perm (s : State) (f : FlowNo) :
    (s.flows.toList.flatMap FlowRecord.queue).Perm ((s.flow f).queue ++ s.slotsOfOthers f) := by
  rw [s.queuedSlots_eq]
  exact (List.perm_cons_erase (List.mem_finRange f)).flatMap_right _

/-- A step that rewrites the queue of `f` alone leaves the slots of the others. -/
theorem QueuesKept.slotsOfOthers {s t : State} {f : FlowNo} {r : FlowRecord} (h : QueuesKept (s.setFlow f r) t) :
    t.slotsOfOthers f = s.slotsOfOthers f := by
  refine List.flatMap_congr fun g hg => ?_
  have hne : g ≠ f := ((List.nodup_finRange 256).mem_erase_iff.mp hg).1
  rw [(h g).queue, State.flow_setFlow_other _ _ _ _ hne]

theorem CellBuffer.occupancy_eq (b : CellBuffer) : b.occupancy = 1024 - b.freeList.length := rfl

/-- The law after a step that rewrites the queue of one flow: what the queue gives up is on the free list, and what it gains has
come from there. -/
theorem PoolLaw.written {s t : State} {f : FlowNo} {r : FlowRecord} (h : PoolLaw s) (q : QueuesKept (s.setFlow f r) t)
    (slots : (t.buffer.freeList ++ r.queue).Perm (s.buffer.freeList ++ (s.flow f).queue))
    (limits : r.queue.length ≤ r.queueLimit ∧ 1 ≤ r.queueLimit ∧ r.queueLimit ≤ 64)
    (unused : r.lifecycle = .unused → r.queue = []) (peak : t.buffer.occupancy ≤ t.buffer.peak ∧ t.buffer.peak ≤ 1024) :
    PoolLaw t where
  slots := by
    have hf : (t.flow f).queue = r.queue := by rw [(q f).queue, State.flow_setFlow_self]
    calc (t.buffer.freeList ++ t.flows.toList.flatMap FlowRecord.queue).Perm
          (t.buffer.freeList ++ ((t.flow f).queue ++ t.slotsOfOthers f)) := (t.queuedSlots_perm f).append_left _
      _ = (t.buffer.freeList ++ r.queue) ++ s.slotsOfOthers f := by rw [hf, q.slotsOfOthers, List.append_assoc]
      List.Perm _ ((s.buffer.freeList ++ (s.flow f).queue) ++ s.slotsOfOthers f) := slots.append_right _
      _ = s.buffer.freeList ++ ((s.flow f).queue ++ s.slotsOfOthers f) := List.append_assoc _ _ _
      List.Perm _ (s.buffer.freeList ++ s.flows.toList.flatMap FlowRecord.queue) := (s.queuedSlots_perm f).symm.append_left _
      List.Perm _ (List.finRange 1024) := h.slots
  limits g := by
    rw [(q g).queue, (q g).limit, State.flow_setFlow]
    split_ifs
    · exact limits
    · exact h.limits g
  unused g hg := by
    rw [(q g).unused, State.flow_setFlow] at hg
    rw [(q g).queue, State.flow_setFlow]
    split_ifs at hg ⊢
    · exact unused hg
    · exact h.unused g hg
  peak := peak

/-- The law after a step that leaves the free list and every queue. -/
theorem PoolLaw.kept {s t : State} (h : PoolLaw s) (q : QueuesKept s t) (free : t.buffer.freeList = s.buffer.freeList)
    (peak : t.buffer.occupancy ≤ t.buffer.peak ∧ t.buffer.peak ≤ 1024) : PoolLaw t := by
  have hq : QueuesKept (s.setFlow 0 (s.flow 0)) t := (queuesKept_of_flows (s.flows_set_flow 0).symm).trans q
  exact h.written hq (by rw [free]) (h.limits 0) (h.unused 0) peak

/-- Both resets establish the law: every slot is free (R70). -/
theorem DatapathReset.poolLaw {t : State} (h : DatapathReset t) : PoolLaw t where
  slots := by
    have hq : t.flows.toList.flatMap FlowRecord.queue = [] := by
      rw [t.flows_toList, List.flatMap_map, List.flatMap_eq_nil_iff]
      intro g _
      rw [h.flows.flow]
      rfl
    rw [hq, h.freeList, List.append_nil]
  limits f := by
    rw [h.flows.flow]
    decide
  unused f _ := by
    rw [h.flows.flow]
    rfl
  peak := by
    rw [h.occupancy, h.peak]
    decide

/-- The slot at the head of the free list has moved to the tail of the queue. -/
theorem perm_enqueued (slot : SlotNo) (rest queue : List SlotNo) :
    (rest ++ (queue ++ [slot])).Perm (slot :: rest ++ queue) := by
  rw [← List.append_assoc]
  exact List.perm_append_singleton slot (rest ++ queue)

/-- Each effect keeps the law: slots pass between the free list and one queue, and the peak follows O when O rises. -/
theorem PoolLaw.cellEffect {s t : State} (h : PoolLaw s) (e : CellEffect (fun r => r.lifecycle.live = true) s t) :
    PoolLaw t := by
  obtain ⟨hpeak, hmax⟩ := h.peak
  rw [CellBuffer.occupancy_eq] at hpeak
  cases e with
  | kept buffer queues => exact h.kept queues (by rw [buffer]) (by rw [buffer]; exact h.peak)
  | @enqueued f slot rest c free flow room buffer queues =>
    have hfree : t.buffer.freeList = rest := by rw [buffer]; rfl
    have htop : t.buffer.peak = max s.buffer.peak (1024 - rest.length) := by rw [buffer]; rfl
    obtain ⟨-, hlow, hhigh⟩ := h.limits f
    refine h.written queues ?_ ⟨?_, hlow, hhigh⟩ (fun hu => ?_) ?_
    · rw [hfree, free]
      exact perm_enqueued slot rest _
    · rw [List.length_append]
      exact room
    · have hl : (s.flow f).lifecycle = .unused := hu
      rw [hl] at flow
      exact nomatch flow
    · rw [CellBuffer.occupancy_eq, hfree, htop]
      omega
  | @returned f slots r queue limit closed buffer queues =>
    have hfree : t.buffer.freeList = s.buffer.freeList ++ slots := by rw [buffer]; rfl
    have htop : t.buffer.peak = s.buffer.peak := by rw [buffer]; rfl
    obtain ⟨hlen, hlow, hhigh⟩ := h.limits f
    rw [queue, List.length_append] at hlen
    refine h.written queues ?_ ?_ (fun hu => ?_) ?_
    · rw [hfree, queue, List.append_assoc]
    · rw [limit]
      omega
    · rcases closed hu with hl | hr
      · exact (List.append_eq_nil_iff.mp (queue.symm.trans (h.unused f hl))).2
      · exact hr
    · rw [CellBuffer.occupancy_eq, hfree, htop, List.length_append]
      omega
  | @opened f r unused queue limit buffer queues =>
    refine h.written queues ?_ ?_ (fun _ => queue) (by rw [buffer]; exact h.peak)
    · rw [buffer, queue, h.unused f unused]
    · rw [queue]
      exact ⟨Nat.zero_le _, limit⟩
  | settings legal buffer queues => exact h.kept queues (by rw [buffer]; rfl) (by rw [buffer]; exact h.peak)
  | peakRead buffer queues =>
    have ho : t.buffer.occupancy = s.buffer.occupancy := by rw [buffer]; rfl
    have htop : t.buffer.peak = s.buffer.occupancy := by rw [buffer]
    refine h.kept queues (by rw [buffer]) ?_
    rw [ho, htop, CellBuffer.occupancy_eq]
    omega
  | reset datapath settings => exact datapath.poolLaw

/-- Settles O58: a step is a run of cell effects, in which a cell joins the queue of a flow that an Active entry names and that is so
OPEN or SUSPENDED, and each effect keeps the law. -/
theorem poolLawIsKept : Obligations.PoolLawIsKept := fun _ _ hmap h e =>
  (step_cellRun (fun p c f he => (hmap.entries p c f he).1) e).keeps PoolLaw.cellEffect h

/-! ## The law of the watermark levels -/

theorem CellBuffer.withRaised_level (b : CellBuffer) (up : Level → Bool) (l : Level) :
    (b.withRaised up).level l = { b.level l with raised := up l } := by
  cases l <;> rfl

/-- H < W1 < W2 < W3 ≤ 1024 (R157). -/
structure CellBuffer.Ordered (b : CellBuffer) : Prop where
  order1 : b.hysteresis < b.level1.threshold
  order2 : b.level1.threshold < b.level2.threshold
  order3 : b.level2.threshold < b.level3.threshold
  order4 : b.level3.threshold ≤ 1024

theorem CellBuffer.Ordered.congr {b b' : CellBuffer} (h : b.Ordered) (e : b.SameSettings b') : b'.Ordered := by
  obtain ⟨h1, h2, h3, h4⟩ := h
  have e1 : b'.level1.threshold = b.level1.threshold := e.threshold .one
  have e2 : b'.level2.threshold = b.level2.threshold := e.threshold .two
  have e3 : b'.level3.threshold = b.level3.threshold := e.threshold .three
  have eh := e.hysteresis
  constructor <;> omega

theorem WatermarkLaw.ordered {s : State} (h : WatermarkLaw s) : s.buffer.Ordered :=
  ⟨h.order1, h.order2, h.order3, h.order4⟩

/-- The law from its parts, for a buffer whose levels have been set. -/
theorem watermarkLaw_of_withRaised {t : State} {b : CellBuffer} {up : Level → Bool} (ht : t.buffer = b.withRaised up)
    (ho : b.Ordered) (clear : ∀ l, up l = false → b.occupancy < (b.level l).threshold)
    (raised : ∀ l, up l = true → (b.level l).threshold ≤ b.occupancy + b.hysteresis)
    (run2 : up .two = true → up .one = true) (run3 : up .three = true → up .two = true) : WatermarkLaw t := by
  obtain ⟨h1, h2, h3, h4⟩ := ho
  constructor <;> rw [ht]
  · exact h1
  · exact h2
  · exact h3
  · exact h4
  · intro l
    rw [CellBuffer.withRaised_level]
    exact ⟨clear l, raised l⟩
  · exact run2
  · exact run3

theorem WatermarkLaw.of_buffer {s t : State} (h : WatermarkLaw s) (e : t.buffer = s.buffer) : WatermarkLaw t := by
  obtain ⟨h1, h2, h3, h4, hs, r2, r3⟩ := h
  constructor <;> rw [e] <;> assumption

theorem CellBuffer.Ordered.hysteresis_lt {b : CellBuffer} (h : b.Ordered) (l : Level) : b.hysteresis < (b.level l).threshold := by
  obtain ⟨h1, h2, h3, -⟩ := h
  cases l with
  | one => exact h1
  | two => exact h1.trans h2
  | three => exact (h1.trans h2).trans h3

/-- A level whose threshold O has reached is raised (R82). -/
theorem WatermarkLaw.raised_of_le {s : State} (h : WatermarkLaw s) {l : Level}
    (hl : (s.buffer.level l).threshold ≤ s.buffer.occupancy) : (s.buffer.level l).raised = true := by
  by_contra hn
  exact absurd ((h.sound l).1 (Bool.eq_false_iff.mpr hn)) (Nat.not_lt.mpr hl)

/-- The law after an enqueue: O has risen by at most 1, and the levels that it has come to are raised (R82). -/
theorem WatermarkLaw.afterStore {s t : State} {slot : SlotNo} {rest : List SlotNo} {c : StoredCell} (h : WatermarkLaw s)
    (free : s.buffer.freeList = slot :: rest) (buffer : t.buffer = s.buffer.afterStore slot rest c) : WatermarkLaw t := by
  have hlevel := s.buffer.store_level slot rest c
  have ho : s.buffer.occupancy ≤ (s.buffer.store slot rest c).occupancy ∧
      (s.buffer.store slot rest c).occupancy ≤ s.buffer.occupancy + 1 := by
    have hs : s.buffer.occupancy = 1024 - (rest.length + 1) := by rw [CellBuffer.occupancy_eq, free]; rfl
    have ht : (s.buffer.store slot rest c).occupancy = 1024 - rest.length := rfl
    omega
  have hrises (l : Level) : (s.buffer.store slot rest c).rises l = true ↔
      (s.buffer.level l).raised = false ∧ (s.buffer.store slot rest c).occupancy = (s.buffer.level l).threshold := by
    rw [CellBuffer.rises_iff, hlevel]
  have run {k l : Level} (hlt : (s.buffer.level l).threshold < (s.buffer.level k).threshold)
      (hr : (s.buffer.level k).raised = true → (s.buffer.level l).raised = true)
      (hk : ((s.buffer.level k).raised || (s.buffer.store slot rest c).rises k) = true) :
      ((s.buffer.level l).raised || (s.buffer.store slot rest c).rises l) = true := by
    rw [Bool.or_eq_true] at hk ⊢
    refine .inl (hk.elim hr fun hk => h.raised_of_le ?_)
    obtain ⟨-, he⟩ := (hrises k).mp hk
    omega
  refine watermarkLaw_of_withRaised buffer (h.ordered.congr ⟨fun l => by rw [hlevel], rfl⟩) (fun l hl => ?_) (fun l hl => ?_)
    (run h.order2 h.run2) (run h.order3 h.run3)
  · obtain ⟨hclear, hstay⟩ := Bool.or_eq_false_iff.mp hl
    have hbelow := (h.sound l).1 hclear
    have hne : (s.buffer.store slot rest c).occupancy ≠ (s.buffer.level l).threshold := fun he =>
      absurd ((hrises l).mpr ⟨hclear, he⟩) (by simp [hstay])
    rw [hlevel]
    omega
  · have hhyst : (s.buffer.store slot rest c).hysteresis = s.buffer.hysteresis := rfl
    rw [hlevel, hhyst]
    rcases Bool.or_eq_true_iff.mp hl with hl | hl
    · have := (h.sound l).2 hl
      omega
    · obtain ⟨-, he⟩ := (hrises l).mp hl
      omega

theorem CellBuffer.fallsOnReturn_iff (b : CellBuffer) {slots : List SlotNo} (h : slots ≠ []) (l : Level) :
    b.fallsOnReturn slots l = true ↔
      (b.level l).raised = true ∧ (b.giveBack slots).occupancy + b.hysteresis < (b.level l).threshold := by
  have hh : (b.giveBack slots).hysteresis = b.hysteresis := rfl
  simp [CellBuffer.fallsOnReturn, CellBuffer.falls, CellBuffer.level_giveBack, h, hh]

/-- The law after a return of slots: O has not risen, and the raised levels with O < W − H are cleared (R83). -/
theorem WatermarkLaw.afterReturn {s t : State} {slots : List SlotNo} (h : WatermarkLaw s)
    (buffer : t.buffer = s.buffer.afterReturn slots) : WatermarkLaw t := by
  by_cases hs : slots = []
  · subst hs
    exact h.of_buffer (buffer.trans s.buffer.afterReturn_nil)
  have hlevel := s.buffer.level_giveBack slots
  have hhyst : (s.buffer.giveBack slots).hysteresis = s.buffer.hysteresis := rfl
  have ho : (s.buffer.giveBack slots).occupancy ≤ s.buffer.occupancy := by
    have ht : (s.buffer.giveBack slots).occupancy = 1024 - (s.buffer.freeList.length + slots.length) := by
      rw [CellBuffer.occupancy_eq, CellBuffer.giveBack, List.length_append]
    rw [ht, CellBuffer.occupancy_eq]
    omega
  have hup (l : Level) : ((s.buffer.level l).raised && !s.buffer.fallsOnReturn slots l) = true ↔
      (s.buffer.level l).raised = true ∧
        (s.buffer.level l).threshold ≤ (s.buffer.giveBack slots).occupancy + s.buffer.hysteresis := by
    rw [Bool.and_eq_true, Bool.not_eq_true', Bool.eq_false_iff, ne_eq, s.buffer.fallsOnReturn_iff hs, not_and, Nat.not_lt]
    exact and_congr_right fun hr => forall_prop_of_true hr
  have run {k l : Level} (hlt : (s.buffer.level l).threshold < (s.buffer.level k).threshold)
      (hr : (s.buffer.level k).raised = true → (s.buffer.level l).raised = true)
      (hk : ((s.buffer.level k).raised && !s.buffer.fallsOnReturn slots k) = true) :
      ((s.buffer.level l).raised && !s.buffer.fallsOnReturn slots l) = true := by
    obtain ⟨hraised, hle⟩ := (hup k).mp hk
    exact (hup l).mpr ⟨hr hraised, hlt.le.trans hle⟩
  refine watermarkLaw_of_withRaised buffer (h.ordered.congr ⟨fun l => by rw [hlevel], rfl⟩) (fun l hl => ?_) (fun l hl => ?_)
    (run h.order2 h.run2) (run h.order3 h.run3)
  · rw [hlevel]
    by_cases hr : (s.buffer.level l).raised = true
    · have hlow : ¬ (s.buffer.level l).threshold ≤ (s.buffer.giveBack slots).occupancy + s.buffer.hysteresis := fun hle =>
        absurd ((hup l).mpr ⟨hr, hle⟩) (by simp [hl])
      omega
    · exact ho.trans_lt ((h.sound l).1 (Bool.eq_false_iff.mpr hr))
  · rw [hlevel, hhyst]
    exact ((hup l).mp hl).2

theorem WaterSettings.legal_iff (w : WaterSettings) :
    w.legal = true ↔ w.h < w.w1 ∧ w.w1 < w.w2 ∧ w.w2 < w.w3 ∧ w.w3 ≤ 1024 ∧ 1 ≤ w.w1 := by
  simp [WaterSettings.legal, and_assoc]

/-- Legal settings establish the law, whatever the levels were before: each level is raised exactly when O ≥ W (R84). -/
theorem watermarkLaw_settings {t : State} {b : CellBuffer} {w : WaterSettings} (legal : w.legal = true)
    (buffer : t.buffer = (b.withSettings w).withRaised (b.withSettings w).shouldRaise) : WatermarkLaw t := by
  obtain ⟨h1, h2, h3, h4, -⟩ := w.legal_iff.mp legal
  have hup (l : Level) : (b.withSettings w).shouldRaise l = true ↔
      ((b.withSettings w).level l).threshold ≤ (b.withSettings w).occupancy := decide_eq_true_iff
  have run {k l : Level} (hlt : ((b.withSettings w).level l).threshold < ((b.withSettings w).level k).threshold)
      (hk : (b.withSettings w).shouldRaise k = true) : (b.withSettings w).shouldRaise l = true :=
    (hup l).mpr (hlt.le.trans ((hup k).mp hk))
  refine watermarkLaw_of_withRaised buffer ⟨h1, h2, h3, h4⟩ (fun l hl => ?_) (fun l hl => ?_) (run h2) (run h3)
  · exact Nat.not_le.mp fun hle => absurd ((hup l).mpr hle) (by simp [hl])
  · exact ((hup l).mp hl).trans (Nat.le_add_right _ _)

/-- A reset that leaves thresholds in order establishes the law: no level is raised and O is 0 (R70). -/
theorem DatapathReset.watermarkLaw {t : State} (h : DatapathReset t) (ho : t.buffer.Ordered) : WatermarkLaw t where
  order1 := ho.order1
  order2 := ho.order2
  order3 := ho.order3
  order4 := ho.order4
  sound l := by
    refine ⟨fun _ => ?_, fun hr => nomatch (h.clear l).symm.trans hr⟩
    rw [h.occupancy]
    exact (Nat.zero_le _).trans_lt (ho.hysteresis_lt l)
  run2 hr := nomatch (h.clear .two).symm.trans hr
  run3 hr := nomatch (h.clear .three).symm.trans hr

theorem WatermarkLaw.cellEffect {mapped : FlowRecord → Prop} {s t : State} (h : WatermarkLaw s) (e : CellEffect mapped s t) :
    WatermarkLaw t := by
  cases e with
  | kept buffer queues => exact h.of_buffer buffer
  | enqueued free flow room buffer queues => exact h.afterStore free buffer
  | returned queue limit closed buffer queues => exact h.afterReturn buffer
  | opened unused queue limit buffer queues => exact h.of_buffer buffer
  | settings legal buffer queues => exact watermarkLaw_settings legal buffer
  | peakRead buffer queues =>
    obtain ⟨h1, h2, h3, h4, hsound, hrun2, hrun3⟩ := h
    constructor <;> rw [buffer] <;> assumption
  | reset datapath settings =>
    refine datapath.watermarkLaw ?_
    rcases settings with hkept | hreset
    · exact h.ordered.congr hkept
    · exact watermarkLaw_reset.ordered.congr hreset

/-- Settles O59: a step is a run of cell effects, and each effect keeps the law, whichever flows are enqueued on. -/
theorem watermarkLawIsKept : Obligations.WatermarkLawIsKept := fun _ _ h e =>
  (step_cellRun (mapped := fun _ => True) (fun _ _ _ _ => trivial) e).keeps WatermarkLaw.cellEffect h

end Sys2Proof.Machine

namespace Sys2Proof.Machine

/-! ## The choice of a slot -/

/-- In the list of the numbers below `n`, only lower numbers stand before `q`. -/
theorem finRange_split {n : Nat} (q : Fin n) : ∃ before behind, List.finRange n = before ++ q :: behind ∧ ∀ j ∈ before, j < q := by
  obtain ⟨before, behind, h⟩ := List.append_of_mem (List.mem_finRange q)
  have hsorted := List.pairwise_lt_finRange n
  rw [h] at hsorted
  obtain ⟨-, -, hlower⟩ := List.pairwise_append.mp hsorted
  exact ⟨before, behind, h, fun j hj => hlower j hj q List.mem_cons_self⟩

/-- The choice among the ready lists is the head flow of the lowest-numbered one that is not empty (R93, R100). -/
theorem State.flowChoice_of_head {s : State} {p : Port} {q : Priority} {f : FlowNo} {l : List FlowNo}
    (hlow : ∀ j, j < q → s.readyList p j = []) (hl : s.readyList p q = f :: l) : s.flowChoice p = .departure q f := by
  obtain ⟨before, behind, hsplit, hbefore⟩ := finRange_split q
  have hhead : s.readyHead p = some (q, f) := by
    refine List.findSome?_eq_some_iff.mpr ⟨before, q, behind, hsplit, by rw [hl]; rfl, fun j hj => ?_⟩
    rw [hlow j (hbefore j hj)]
    rfl
  rw [State.flowChoice, hhead]

/-- With every ready list empty the choice is IDLE (R96). -/
theorem State.flowChoice_of_empty {s : State} {p : Port} (h : ∀ q, s.readyList p q = []) : s.flowChoice p = .idle := by
  have hhead : s.readyHead p = none := List.findSome?_eq_none_iff.mpr fun q _ => by rw [h q]; rfl
  rw [State.flowChoice, hhead]

/-- No notice is chosen while no record is queued or no credit is left (R95). -/
theorem State.noticeChoice_of_none {s : State} (h : s.notices.records = [] ∨ s.notices.credit = 0) :
    s.noticeChoice = s.flowChoice .T := by
  unfold State.noticeChoice
  rcases h with hrecords | hcredit
  · have hchoice : s.notices.choice = none := by simp [NoticeUnit.choice, hrecords]
    rw [hchoice]
  · cases s.notices.choice with
    | none => rfl
    | some r => exact if_neg (by simp [hcredit])

/-- With nothing ahead of the ready lists a slot is theirs (R93). -/
theorem State.slotChoice_of_nothing_ahead {s : State} {p : Port}
    (h : p = .T → s.mgmt.responses = [] ∧ (s.notices.records = [] ∨ s.notices.credit = 0)) :
    s.slotChoice p = s.flowChoice p := by
  cases p with
  | F => rfl
  | T =>
    obtain ⟨hresponses, hnotices⟩ := h rfl
    rw [State.slotChoice, hresponses]
    exact State.noticeChoice_of_none hnotices

theorem State.slotChoice_of_response {s : State} {x : Response} {rest : List Response} (h : s.mgmt.responses = x :: rest) :
    s.slotChoice .T = .response x rest := by
  rw [State.slotChoice, h]

/-- An UP port opens its slot (R93). -/
theorem State.egress_of_up {s : State} {p : Port} (h : (s.port p).link = .up) : s.egress p = s.openSlot p :=
  if_pos h

theorem exec_egressSlot (p : Port) (s : State) : exec (.egressSlot p) s = .next (s.egress p) := rfl

/-- Settles O20: the arbiter's choice in each of the cases, and what the slot of that choice does. -/
theorem slotCarriesResponseOrIdle : Obligations.SlotCarriesResponseOrIdle := by
  refine ⟨fun s x rest hup hx => ?_, fun s p hup hempty hahead => ?_, fun s p hdown => ?_⟩
  · rw [exec_egressSlot, State.egress_of_up (p := .T) hup, State.openSlot, State.slotChoice_of_response hx]
    rfl
  · have hidle : s.slotChoice p = .idle :=
      (State.slotChoice_of_nothing_ahead hahead).trans (State.flowChoice_of_empty hempty)
    rw [exec_egressSlot, State.egress_of_up hup, State.openSlot, hidle]
    rfl
  · rw [exec_egressSlot, State.egress_of_down hdown]

/-! ## The departure of a user cell -/

/-- A departure up to its contract arithmetic: the cell sent, the flow out of its ready list and the cell out of its queue, the slot
returned and the levels tested, and both Sent counters raised (R97 items 1 to 4). -/
def State.sendHead (s : State) (p : Port) (q : Priority) (f : FlowNo) (slot : SlotNo) (rest : List SlotNo) : State :=
  (((s.transmit p (userCell (s.flow f).egressChannel (s.buffer.slots.get slot))).takeHead p q f slot rest).countFlow f
    FlowCounters.addSent).countPort p PortCounters.addSent

theorem State.depart_eq_sendHead {s : State} {f : FlowNo} {slot : SlotNo} {rest : List SlotNo}
    (h : (s.flow f).queue = slot :: rest) (p : Port) (q : Priority) :
    s.depart p q f = ((s.sendHead p q f slot rest).departureArithmetic f).afterDeparture f := by
  rw [State.depart, h]
  rfl

section
variable (s : State) (p : Port) (q : Priority) (f : FlowNo) (slot : SlotNo) (rest : List SlotNo)

@[simp] theorem State.sendHead_frame :
    (s.sendHead p q f slot rest).pending = s.pending ∧ (s.sendHead p q f slot rest).resetHeld = s.resetHeld ∧
    (s.sendHead p q f slot rest).map = s.map ∧ (s.sendHead p q f slot rest).calendar = s.calendar ∧
    (s.sendHead p q f slot rest).time = s.time ∧ (s.sendHead p q f slot rest).mgmt = s.mgmt ∧
    (s.sendHead p q f slot rest).probe = s.probe := by
  simp [State.sendHead]

theorem sameFlows_sendHead : SameFlows
    ((s.setReadyList p q (s.readyList p q).tail).setFlow f { s.flow f with queue := rest }) (s.sendHead p q f slot rest) := by
  cases p <;> constructor <;> simp [State.sendHead, State.takeHead, State.setReadyList, State.readyList, State.flow]

/-- The ports after the sending: the transmitter of `p` holds the cell. -/
theorem State.sendHead_port (p' : Port) : (s.sendHead p q f slot rest).port p' =
    (s.setPort p { s.port p with
      tx := some (userCell (s.flow f).egressChannel (s.buffer.slots.get slot)) }).port p' := by
  cases p' <;> simp [State.sendHead, State.port, State.transmit]

/-- The buffer after the sending: the slot given back, and the raised levels that O has fallen below cleared (R83). -/
theorem State.sendHead_buffer : (s.sendHead p q f slot rest).buffer = (s.buffer.giveBack [slot]).withRaised
    fun k => (s.buffer.level k).raised && !(s.buffer.giveBack [slot]).falls k := by
  simp [State.sendHead, State.takeHead, State.clearLevels_does, CellBuffer.level_giveBack]

theorem State.sendHead_notices : (s.sendHead p q f slot rest).notices =
    s.notices.postAll s.time.now (fallPostings (s.buffer.giveBack [slot]).falls) := by
  simp [State.sendHead, State.takeHead, State.clearLevels_does]

theorem State.sendHead_counters : (s.sendHead p q f slot rest).counters =
    ((s.setFlowCounters f (s.flowCounters f).addSent).setPortCounters p (s.portCounters p).addSent).counters := by
  cases p <;> simp [State.sendHead, State.countPort, State.countFlow, State.setPortCounters, State.setFlowCounters,
    State.flowCounters, State.portCounters]

end

/-- The contract arithmetic of a departure posts the promotion of a PACE flow's cycle boundary (R12, R18). -/
theorem State.departureArithmetic_notices (v : State) (f : FlowNo) : (v.departureArithmetic f).notices =
    v.notices.postAll v.now (if (v.flow f).active.mode = .pace then (v.flow f).boundaryPostings f else []) := by
  unfold State.departureArithmetic
  split_ifs
  · exact v.dueUpdate_notices f v.now
  · rfl

/-- The rescheduling of a departure posts the end of a drain (R35). -/
theorem State.afterDeparture_notices (w : State) (f : FlowNo) : (w.afterDeparture f).notices = w.notices.postAll w.now
    (if (w.flow f).queue = [] ∧ (w.flow f).lifecycle = .draining then [(.flowClosed f, .drained)] else []) := by
  unfold State.afterDeparture
  split_ifs
  · rfl
  · simp

/-- A flow taken out of its structure, its record written, and placed, has been refiled. -/
theorem SameFlows.refiled_of_place {s w : State} {f : FlowNo} {r : FlowRecord} (h : SameFlows ((s.unschedule f).setFlow f r) w) :
    (w.place f).flows = s.flows.set f.val (r.filed s.now) f.isLt ∧ Refiled s (w.place f) f := by
  have hflow : w.flow f = r := h.flow_of_setFlow
  have hnow : w.now = s.now := by
    have := h.now
    simpa [State.now] using this
  obtain ⟨hflows, hready, hwaiting⟩ := w.place_does f
  have hplaced : (w.place f).flow f = r.filed s.now := by rw [State.place_flow, if_pos rfl, hflow, hnow]
  rw [hflow, hnow] at hflows hready hwaiting
  refine ⟨by rw [hflows, h.flows]; simp, fun p q => ?_, fun i => ?_⟩
  · rw [hready, hplaced, h.readyList, ← s.unschedule_readyList f p q]
    rfl
  · rw [hwaiting, hplaced, h.calendarSlot, ← s.unschedule_calendarSlot f i]
    rfl

/-- The record that a departure leaves (R35, R98). -/
def FlowRecord.leftBehind (r : FlowRecord) (now : Stamp) : FlowRecord :=
  if r.queue = [] ∧ r.lifecycle = .draining then { r with sched := .empty, lifecycle := .unused } else r.filed now

/-- The rescheduling of a departure: the flow ends its drain, or is filed anew (R98). -/
theorem SameFlows.refiled_of_afterDeparture {s w : State} {f : FlowNo} {r : FlowRecord}
    (h : SameFlows ((s.unschedule f).setFlow f r) w) :
    (w.afterDeparture f).flows = s.flows.set f.val (r.leftBehind s.now) f.isLt ∧ Refiled s (w.afterDeparture f) f := by
  have hflow : w.flow f = r := h.flow_of_setFlow
  unfold State.afterDeparture FlowRecord.leftBehind
  rw [hflow]
  split_ifs with hended
  · have hclosed := (h.setFlow f { r with sched := .empty, lifecycle := .unused }).trans (hflow ▸ sameFlows_finishDrain w f)
    rw [State.setFlow_setFlow] at hclosed
    exact hclosed.refiled_of_unscheduled (.inl rfl)
  · exact h.refiled_of_place

/-- Taking a READY flow out of its structure is taking the head off the ready list that it heads (R97). -/
theorem State.unschedule_of_head {s : State} {p : Port} {q : Priority} {f : FlowNo} {l : List FlowNo}
    (hl : s.readyList p q = f :: l) (hs : (s.flow f).sched = .ready) (hp : (s.flow f).egressPort = p)
    (hq : (s.flow f).priority = q) : s.unschedule f = s.setReadyList p q (s.readyList p q).tail := by
  simp [State.unschedule, hs, hp, hq, hl]

/-- A departure up to its rescheduling, as it stands to the state without the flow. -/
theorem State.sendHead_departs {s : State} {p : Port} {q : Priority} {f : FlowNo} {slot : SlotNo} {rest : List SlotNo}
    (h : s.unschedule f = s.setReadyList p q (s.readyList p q).tail) :
    SameFlows ((s.unschedule f).setFlow f ((s.flow f).departed s.now rest))
      ((s.sendHead p q f slot rest).departureArithmetic f) := by
  have hsent := sameFlows_sendHead s p q f slot rest
  rw [← h] at hsent
  have hnow : (s.sendHead p q f slot rest).now = s.now := by simp [State.now]
  have harith := sameFlows_departureArithmetic (s.sendHead p q f slot rest) f
  rw [hsent.flow_of_setFlow, hnow] at harith
  have hboth := (hsent.setFlow f ((s.flow f).departed s.now rest)).trans harith
  rwa [State.setFlow_setFlow] at hboth

/-- What a departure leaves of the flow and of its place: taken out of its ready list, updated and refiled. -/
theorem State.depart_refiles {s : State} {p : Port} {q : Priority} {f : FlowNo} {slot : SlotNo} {rest : List SlotNo}
    (h : s.unschedule f = s.setReadyList p q (s.readyList p q).tail) (hq : (s.flow f).queue = slot :: rest) :
    (s.depart p q f).flows = s.flows.set f.val (((s.flow f).departed s.now rest).leftBehind s.now) f.isLt ∧
      Refiled s (s.depart p q f) f := by
  rw [State.depart_eq_sendHead hq]
  exact (State.sendHead_departs h).refiled_of_afterDeparture

/-- What a departure posts: the levels that clear, the promotion of a cycle boundary, the end of a drain, in this order. -/
theorem State.depart_notices {s : State} {f : FlowNo} {slot : SlotNo} {rest : List SlotNo} (hq : (s.flow f).queue = slot :: rest)
    (p : Port) (q : Priority) :
    (s.depart p q f).notices = s.notices.postAll s.time.now (fallPostings (s.buffer.giveBack [slot]).falls
      ++ (if (s.flow f).active.mode = .pace then (s.flow f).boundaryPostings f else [])
      ++ (if rest = [] ∧ (s.flow f).lifecycle = .draining then [(.flowClosed f, .drained)] else [])) := by
  have hsent : (s.sendHead p q f slot rest).flow f = { s.flow f with queue := rest } :=
    (sameFlows_sendHead s p q f slot rest).flow_of_setFlow
  have hnow : (s.sendHead p q f slot rest).now = s.time.now := by simp [State.now]
  have hnow' : ((s.sendHead p q f slot rest).departureArithmetic f).now = s.time.now := by simp [State.now]
  have hdeparted : ((s.sendHead p q f slot rest).departureArithmetic f).flow f = (s.flow f).departed s.now rest := by
    rw [(sameFlows_departureArithmetic _ f).flow_of_setFlow, hsent, hnow]
    rfl
  obtain ⟨hlife, -, -, hqueue, -, -⟩ := (s.flow f).departed_frame s.now rest
  rw [State.depart_eq_sendHead hq, State.afterDeparture_notices, State.departureArithmetic_notices, State.sendHead_notices,
    hsent, hnow, hnow', hdeparted, hlife, hqueue, NoticeUnit.postAll_append, NoticeUnit.postAll_append]
  rfl

/-- What a departure leaves of the ports, the buffer and the counters is what its sending leaves. -/
theorem State.depart_sends {s : State} {f : FlowNo} {slot : SlotNo} {rest : List SlotNo} (hq : (s.flow f).queue = slot :: rest)
    (p : Port) (q : Priority) :
    (s.depart p q f).portT = (s.sendHead p q f slot rest).portT ∧ (s.depart p q f).portF = (s.sendHead p q f slot rest).portF ∧
    (s.depart p q f).buffer = (s.sendHead p q f slot rest).buffer ∧
    (s.depart p q f).counters = (s.sendHead p q f slot rest).counters := by
  simp [State.depart_eq_sendHead hq]

theorem State.port_congr {s t : State} (hT : s.portT = t.portT) (hF : s.portF = t.portF) (p : Port) : s.port p = t.port p := by
  cases p with
  | T => exact hT
  | F => exact hF

theorem otherPort_ne (p : Port) : otherPort p ≠ p := by
  cases p <;> decide

/-- Settles O22: the slot is the flow's departure, and each part of the departure has its own lemma. -/
theorem departureSendsReturnsAndReplaces : Obligations.DepartureSendsReturnsAndReplaces := by
  intro s p q f l slot rest hup hahead hlow hl hqueue hsched hport hprio _ r cell back left paced ended
  have hchoice : s.slotChoice p = .departure q f :=
    (State.slotChoice_of_nothing_ahead hahead).trans (State.flowChoice_of_head hlow hl)
  obtain ⟨hflows, hrefiled⟩ := State.depart_refiles (State.unschedule_of_head hl hsched hport hprio) hqueue
  obtain ⟨hportT, hportF, hbuffer, hcounters⟩ := State.depart_sends hqueue p q
  have hports : ∀ p', (s.depart p q f).port p' = _ := fun p' =>
    (State.port_congr hportT hportF p').trans (s.sendHead_port p q f slot rest p')
  replace hcounters := hcounters.trans (s.sendHead_counters p q f slot rest)
  obtain ⟨hlife, -, -, hleft, -, -⟩ := r.departed_frame s.now rest
  have hended : (r.departed s.now rest).queue = [] ∧ (r.departed s.now rest).lifecycle = .draining ↔ ended := by
    rw [hlife, hleft]
  have hfinal : (r.departed s.now rest).leftBehind s.now =
      if ended then { paced with sched := .empty, lifecycle := .unused } else paced.filed s.time.now :=
    if_congr hended rfl rfl
  rw [exec_egressSlot, State.egress_eq_depart hup hchoice]
  refine ⟨_, rfl, ?_, ?_, ?_, hfinal ▸ hflows, hbuffer.trans (s.sendHead_buffer p q f slot rest), State.depart_notices hqueue p q,
    ?_, ?_, fun g hg => ?_, ?_, hrefiled⟩
  · apply State.eq_of_fields <;> simp
  · rw [hports, State.port_setPort_other _ _ _ _ (otherPort_ne p)]
  · rw [hports, State.port_setPort_self]
    rfl
  · rw [State.portCounters_congr hcounters, State.portCounters_setPortCounters_self]
    rfl
  · rw [State.portCounters_congr hcounters, State.portCounters_setPortCounters_other _ _ _ _ (otherPort_ne p),
      State.portCounters_setFlowCounters]
  · rw [State.flowCounters_congr hcounters, State.flowCounters_setPortCounters,
      State.flowCounters_setFlowCounters_other _ _ _ _ hg]
  · rw [State.flowCounters_congr hcounters, State.flowCounters_setPortCounters, State.flowCounters_setFlowCounters_self]
    rfl

end Sys2Proof.Machine

namespace Sys2Proof.Machine

/-! ## What a tick does -/

/-- Each flow of a run joins the tail of the ready list of its port and priority, in the order of the run. -/
theorem State.foldl_makeReady_readyList (l : List FlowNo) (p : Port) (q : Priority) : ∀ s : State,
    (l.foldl State.makeReady s).readyList p q = s.readyList p q ++
      l.filter fun f => (s.flow f).egressPort = p ∧ (s.flow f).priority = q := by
  induction l with
  | nil => simp
  | cons g l ih =>
    intro s
    have hroute : ∀ f, ((s.makeReady g).flow f).egressPort = (s.flow f).egressPort ∧
        ((s.makeReady g).flow f).priority = (s.flow f).priority := fun f => by
      rw [State.makeReady_flow]
      split_ifs with hf
      · rw [hf]
        exact ⟨rfl, rfl⟩
      · exact ⟨rfl, rfl⟩
    rw [List.foldl_cons, ih, State.makeReady_readyList, List.append_assoc, List.filter_cons]
    simp only [hroute, decide_eq_true_eq]
    split_ifs <;> rfl

/-- A calendar service moves the flows whose X is now to the tails of their ready lists (R90). -/
theorem State.serviceCalendar_readyList (s : State) (p : Port) (q : Priority) : s.serviceCalendar.readyList p q =
    s.readyList p q ++ s.dueFlows.filter fun f => (s.flow f).egressPort = p ∧ (s.flow f).priority = q :=
  State.foldl_makeReady_readyList s.dueFlows p q _

/-- A calendar service leaves in the slot for now the flows whose X is another Pace Time, and looks at no other slot (R90). -/
theorem State.serviceCalendar_calendarSlot (s : State) (i : Fin 1024) : s.serviceCalendar.calendarSlot i =
    if i = slotIndex s.now then (s.calendarSlot (slotIndex s.now)).filter fun f => !s.isDue f else s.calendarSlot i := by
  rw [← State.calendarSlot_setCalendarSlot]
  simp [State.calendarSlot, State.serviceCalendar, State.foldl_makeReady_frame]

/-- The state whose calendar a tick services: the Time Base advanced (R44). -/
def State.advanced (s : State) : State :=
  s.withTime s.time.tick

theorem State.tick_eq_advanced {s : State} (h : s.resetHeld = false) :
    s.tick = s.advanced.serviceCalendar.sweepVisit s.time.sweep :=
  State.tick_of_released h

/-- The flows of the serviced slot whose X is the new Pace Time join the tails of their ready lists, in their order (R90). -/
theorem State.tick_readyList {s : State} (h : s.resetHeld = false) (p : Port) (q : Priority) : s.tick.readyList p q =
    s.readyList p q ++ (s.calendarSlot (slotIndex (s.time.now + 1))).filter fun f =>
      (s.flow f).eligible = s.time.now + 1 ∧ (s.flow f).egressPort = p ∧ (s.flow f).priority = q := by
  have hvisit : s.tick.readyList p q = s.advanced.serviceCalendar.readyList p q := by
    simp [State.tick_eq_advanced h, State.readyList]
  have hdue : ∀ f, s.advanced.isDue f = decide ((s.flow f).eligible = s.time.now + 1) := fun _ => rfl
  rw [hvisit, State.serviceCalendar_readyList, State.dueFlows, List.filter_filter]
  refine congrArg (s.readyList p q ++ ·) (List.filter_congr fun f _ => ?_)
  rw [hdue, Bool.and_comm, ← Bool.decide_and]
  rfl

/-- The other flows of the serviced slot keep their places, and no other slot is looked at (R90). -/
theorem State.tick_calendarSlot {s : State} (h : s.resetHeld = false) (i : Fin 1024) : s.tick.calendarSlot i =
    if i = slotIndex (s.time.now + 1) then
      (s.calendarSlot (slotIndex (s.time.now + 1))).filter fun f => (s.flow f).eligible ≠ s.time.now + 1
    else s.calendarSlot i := by
  have hvisit : s.tick.calendarSlot i = s.advanced.serviceCalendar.calendarSlot i := by
    simp [State.tick_eq_advanced h, State.calendarSlot]
  have hdue : ∀ f, (!s.advanced.isDue f) = decide ((s.flow f).eligible ≠ s.time.now + 1) := fun _ => decide_not.symm
  rw [hvisit, State.serviceCalendar_calendarSlot]
  simp only [hdue]
  rfl

theorem State.mem_dueFlows_advanced (s : State) (f : FlowNo) : f ∈ s.advanced.dueFlows ↔ s.tickMoves f := by
  rw [State.dueFlows, List.mem_filter]
  exact and_congr_right fun _ => decide_eq_true_iff

/-- The visit of the Refresh Sweep writes D alone, of a flow that is not UNUSED and is 65536 or more ticks behind (R49). -/
theorem FlowRecord.swept_eq (r : FlowRecord) (now : Stamp) : r.swept now =
    { r with due := if r.lifecycle ≠ .unused ∧ r.stale now = true then now else r.due } := by
  simp only [FlowRecord.swept, Bool.and_eq_true, decide_eq_true_eq]
  split_ifs <;> rfl

/-- The record of a flow after a tick: the calendar service writes its scheduling state and the sweep its D (R49, R90). -/
theorem State.tick_flow {s : State} (h : s.resetHeld = false) (f : FlowNo) : s.tick.flow f = { s.flow f with
    sched := if f ∈ s.advanced.dueFlows then .ready else (s.flow f).sched
    due := if f = s.time.sweep ∧ (s.flow f).lifecycle ≠ .unused ∧ (s.flow f).stale (s.time.now + 1) = true then s.time.now + 1
      else (s.flow f).due } := by
  have hnow : s.advanced.serviceCalendar.now = s.time.now + 1 := s.advanced.serviceCalendar_now
  have hserved : s.advanced.serviceCalendar.flow f =
      { s.flow f with sched := if f ∈ s.advanced.dueFlows then .ready else (s.flow f).sched } := by
    rw [State.serviceCalendar_flow]
    split_ifs <;> rfl
  rw [State.tick_eq_advanced h, State.sweepVisit_flow, hnow]
  by_cases hf : f = s.time.sweep
  · rw [if_pos hf, ← hf, hserved, FlowRecord.swept_eq]
    simp only [true_and]
    rfl
  · rw [if_neg hf, if_neg fun e => hf e.1, hserved]

theorem State.tickRebases_iff (s : State) (f : FlowNo) : s.tickRebases f ↔
    f = s.time.sweep ∧ (s.flow f).lifecycle ≠ .unused ∧ (s.flow f).stale (s.time.now + 1) = true := by
  rw [State.tickRebases, FlowRecord.stale_iff]

/-- The next tick releases a flow exactly when it moves one. -/
theorem State.tickReleases_iff {s : State} (h : s.resetHeld = false) : s.tickReleases = true ↔ ∃ f, s.tickMoves f := by
  rw [State.tickReleases, h, Bool.not_false, Bool.true_and, List.any_eq_true]
  exact exists_congr fun f => and_congr_right fun _ => decide_eq_true_iff

/-- Settles O10: the parts of a tick, each by its own lemma, and CALENDAR_SERVICE by whether the tick moves a flow. -/
theorem tickServicesTheCalendarAndTheSweep : Obligations.TickServicesTheCalendarAndTheSweep := by
  intro s h
  have htime := State.tick_time h
  have hnow : s.tick.time.now = s.time.now + 1 := congrArg TimeBase.now htime
  refine ⟨⟨s.tick, rfl, ?_, htime, ?_, fun i hi => ?_, fun p q => ?_, fun f => ?_⟩, fun hmoves => ?_, fun hnone => ?_⟩
  · apply State.eq_of_fields <;> simp
  · rw [hnow, State.tick_calendarSlot h, if_pos rfl]
  · rw [hnow] at hi
    rw [State.tick_calendarSlot h, if_neg hi]
  · rw [hnow, State.tick_readyList h]
  · have hflow := State.tick_flow h f
    have hsched := congrArg FlowRecord.sched hflow
    have hdue := congrArg FlowRecord.due hflow
    rw [hnow]
    refine ⟨fun hm => ?_, fun hm => ?_, fun hr => ?_, fun hr => ?_, by rw [hflow]⟩
    · exact hsched.trans (if_pos ((s.mem_dueFlows_advanced f).mpr hm))
    · exact hsched.trans (if_neg fun hd => hm ((s.mem_dueFlows_advanced f).mp hd))
    · exact hdue.trans (if_pos ((s.tickRebases_iff f).mp hr))
    · exact hdue.trans (if_neg fun hd => hr ((s.tickRebases_iff f).mpr hd))
  · have hr := (State.tickReleases_iff h).mpr hmoves
    show execCalendarService s = execTick s
    rw [execCalendarService, if_pos hr]
    rfl
  · have hr : ¬ s.tickReleases = true := fun hr => ((State.tickReleases_iff h).mp hr).elim hnone
    show execCalendarService s = .next s
    rw [execCalendarService, if_neg hr]

end Sys2Proof.Machine

namespace Sys2Proof.Machine

/-! ## The fields of a built cell -/

theorem kindOf_code (k : Kind) : kindOf k.code = k := by
  cases k <;> rfl

section
variable (ch : Channel) (k : Kind) (carry : BitVec 4) (label : Byte) (payload : Payload)

theorem buildCell_header : (buildCell ch k carry label payload).header =
    ch ++ k.code ++ carry ++ label ++ crc8 (ch ++ k.code ++ carry ++ label) := rfl

theorem buildCell_good : (buildCell ch k carry label payload).good = true := by
  have htop : (buildCell ch k carry label payload).top = ch ++ k.code ++ carry ++ label := BitVec.extractLsb'_append_eq_left
  have hcheck : (buildCell ch k carry label payload).check = crc8 (ch ++ k.code ++ carry ++ label) :=
    BitVec.extractLsb'_append_eq_right
  exact decide_eq_true ((congrArg crc8 htop).trans hcheck.symm)

theorem buildCell_label : (buildCell ch k carry label payload).label = label := by
  rw [Cell.label, buildCell_header, BitVec.extractLsb'_append_eq_of_le (by decide)]
  exact BitVec.extractLsb'_append_eq_right

theorem buildCell_carry : (buildCell ch k carry label payload).carry = carry := by
  rw [Cell.carry, buildCell_header, BitVec.extractLsb'_append_eq_of_le (by decide),
    BitVec.extractLsb'_append_eq_of_le (by decide)]
  exact BitVec.extractLsb'_append_eq_right

theorem buildCell_kind : (buildCell ch k carry label payload).kind = k := by
  rw [Cell.kind, buildCell_header, BitVec.extractLsb'_append_eq_of_le (by decide),
    BitVec.extractLsb'_append_eq_of_le (by decide), BitVec.extractLsb'_append_eq_of_le (by decide)]
  exact (congrArg kindOf BitVec.extractLsb'_append_eq_right).trans (kindOf_code k)

theorem buildCell_channel : (buildCell ch k carry label payload).channel = ch := by
  rw [Cell.channel, buildCell_header, BitVec.extractLsb'_append_eq_of_le (by decide),
    BitVec.extractLsb'_append_eq_of_le (by decide), BitVec.extractLsb'_append_eq_of_le (by decide)]
  exact BitVec.extractLsb'_append_eq_left

end

/-! ## The bytes of a cell -/

theorem Cell.bytes_length (c : Cell) : c.bytes.length = 32 := by
  simp [Cell.bytes, bytes4]

theorem payloadOf_toList (v : Payload) : payloadOf v.toList = v := by
  ext i
  simp [payloadOf]

/-- A word is its four bytes, the first highest, put together again. -/
theorem append_bytes4 (w : BitVec 32) :
    w.extractLsb' 24 8 ++ w.extractLsb' 16 8 ++ w.extractLsb' 8 8 ++ w.extractLsb' 0 8 = w := by
  rw [BitVec.extractLsb'_append_extractLsb'_eq_extractLsb' (start₂ := 24) (start₁ := 16) rfl,
    BitVec.extractLsb'_append_extractLsb'_eq_extractLsb' (start₂ := 16) (start₁ := 8) rfl,
    BitVec.extractLsb'_append_extractLsb'_eq_extractLsb' (start₂ := 8) (start₁ := 0) rfl]
  exact BitVec.extractLsb'_eq_self

/-- Reading the bytes of any cell gives the cell back (R109, R192). -/
theorem Cell.ofBytes_bytes (c : Cell) : Cell.ofBytes c.bytes = c :=
  congrArg₂ Cell.mk (append_bytes4 c.header) (payloadOf_toList c.payload)

/-- Settles O25: any cell reads back from its bytes, and each header field of a built cell is the part that was put there. -/
theorem builtCellsReadBack : Obligations.BuiltCellsReadBack := fun _ _ _ _ _ =>
  ⟨Cell.bytes_length _, Cell.ofBytes_bytes _, buildCell_good .., buildCell_channel .., buildCell_kind .., buildCell_carry ..,
    buildCell_label .., rfl⟩

/-! ## The check -/

/-- What a step of the check adds to the shifted register when the bit that leaves it and the incoming one differ (R110). -/
def crcFeedback (bit : Bool) : Byte :=
  if bit then 0x07 else 0

theorem crcFeedback_xor (a b : Bool) : crcFeedback (a ^^ b) = crcFeedback a ^^^ crcFeedback b := by
  cases a <;> cases b <;> rfl

theorem crcStep_eq (r : Byte) (bit : Bool) : crcStep r bit = r <<< 1 ^^^ crcFeedback (r.msb ^^ bit) := by
  unfold crcStep crcFeedback
  split_ifs
  · rfl
  · exact BitVec.xor_zero.symm

theorem crcStep_xor (r t : Byte) (a b : Bool) : crcStep (r ^^^ t) (a ^^ b) = crcStep r a ^^^ crcStep t b := by
  have hbits : ((r ^^^ t).msb ^^ (a ^^ b)) = ((r.msb ^^ a) ^^ (t.msb ^^ b)) := by
    simp only [BitVec.msb_xor, Bool.xor_assoc, Bool.xor_left_comm]
  simp only [crcStep_eq, hbits, crcFeedback_xor, BitVec.shiftLeft_xor_distrib]
  ac_rfl

theorem foldl_crcStep_xor (f g : Nat → Bool) (l : List Nat) (r t : Byte) :
    l.foldl (fun r i => crcStep r (f i ^^ g i)) (r ^^^ t) =
      l.foldl (fun r i => crcStep r (f i)) r ^^^ l.foldl (fun r i => crcStep r (g i)) t := by
  induction l generalizing r t with
  | nil => rfl
  | cons i l ih => rw [List.foldl_cons, List.foldl_cons, List.foldl_cons, crcStep_xor, ih]

theorem crc8_xor (a b : BitVec 24) : crc8 (a ^^^ b) = crc8 a ^^^ crc8 b := by
  simp only [crc8, BitVec.getMsbD_xor]
  exact foldl_crcStep_xor a.getMsbD b.getMsbD (List.range 24) 0 0

/-- What the check computed over a header's first three bytes and its fourth byte differ in (R110, R112). -/
def syndrome (header : BitVec 32) : Byte :=
  crc8 (header.extractLsb' 8 24) ^^^ header.extractLsb' 0 8

theorem Cell.good_iff (c : Cell) : c.good = true ↔ syndrome c.header = 0 :=
  decide_eq_true_iff.trans BitVec.xor_eq_zero_iff.symm

theorem syndrome_xor (a b : BitVec 32) : syndrome (a ^^^ b) = syndrome a ^^^ syndrome b := by
  simp only [syndrome, BitVec.extractLsb'_xor, crc8_xor]
  ac_rfl

theorem syndrome_single_bit_ne_zero : ∀ i : Fin 32, syndrome (1#32 <<< i.val) ≠ 0 := by
  decide +kernel

/-- Settles O26: the syndrome is linear as the check is, so that the one of a changed header is the one of the change alone, and
no single bit has the syndrome 0. -/
theorem checkFindsSingleBitErrors : Obligations.CheckFindsSingleBitErrors := by
  refine ⟨by decide +kernel, crc8_xor, fun c i hgood => Bool.eq_false_iff.mpr fun hchanged => ?_⟩
  have hzero := (Cell.good_iff { c with header := c.header ^^^ 1#32 <<< i.val }).mp hchanged
  refine syndrome_single_bit_ne_zero i ?_
  calc syndrome (1#32 <<< i.val)
    _ = syndrome c.header ^^^ syndrome (1#32 <<< i.val) := by rw [c.good_iff.mp hgood]; exact BitVec.zero_xor.symm
    _ = syndrome (c.header ^^^ 1#32 <<< i.val) := (syndrome_xor _ _).symm
    _ = 0 := hzero

end Sys2Proof.Machine

namespace Sys2Proof.Machine

/-! ## Link transitions -/

theorem State.setPort_setPort (s : State) (p : Port) (x y : LinkPort) : (s.setPort p x).setPort p y = s.setPort p y := by
  cases p <;> rfl

theorem exec_lineOkAssertion (p : Port) (s : State) : exec (.lineOkAssertion p) s = .next (s.assertLineOk p) := rfl

theorem exec_lineOkDeassertion (p : Port) (s : State) : exec (.lineOkDeassertion p) s = .next (s.deassertLineOk p) := rfl

/-- A line-OK input that is high already makes no transition (R118). -/
theorem State.assertLineOk_of_high {s : State} {p : Port} (h : (s.port p).lineOk = true) : s.assertLineOk p = s :=
  if_pos h

/-- A line-OK input that is low already makes no transition (R118). -/
theorem State.deassertLineOk_of_low {s : State} {p : Port} (h : (s.port p).lineOk = false) : s.deassertLineOk p = s :=
  if_neg (Bool.eq_false_iff.mp h)

theorem State.assertLineOk_of_low {s : State} {p : Port} (hr : s.resetHeld = false) (h : (s.port p).lineOk = false) :
    s.assertLineOk p = (s.setPort p { s.port p with lineOk := true, link := .up }).post (.linkUp p) .none := by
  rw [State.assertLineOk, if_neg (Bool.eq_false_iff.mp h), if_neg (Bool.eq_false_iff.mp hr), State.linkUp, State.setLineOk,
    State.port_setPort_self, State.setPort_setPort]

theorem State.deassertLineOk_of_high {s : State} {p : Port} (hr : s.resetHeld = false) (h : (s.port p).lineOk = true) :
    s.deassertLineOk p = (s.setPort p { lineOk := false, link := .down, tx := none }).post (.linkDown p) .none := by
  rw [State.deassertLineOk, if_pos h, if_neg (Bool.eq_false_iff.mp hr), State.linkDown, State.setLineOk,
    State.port_setPort_self, State.setPort_setPort]

@[simp] theorem State.port_post (s : State) (n : Notice) (d : Detail) (p : Port) : (s.post n d).port p = s.port p := by
  cases p <;> rfl

/-- A port record written together with a posting: the rest of the state stays, and so does the other port. -/
theorem State.setPort_post_effect (s : State) (p : Port) (x : LinkPort) (n : Notice) :
    let t := (s.setPort p x).post n .none
    t = { s with portT := t.portT, portF := t.portF, notices := t.notices } ∧ t.port p = x ∧
      t.port (otherPort p) = s.port (otherPort p) ∧ t.notices = s.notices.post n s.time.now .none := by
  refine ⟨?_, ?_, ?_, ?_⟩
  · apply State.eq_of_fields <;> simp
  · rw [State.port_post, State.port_setPort_self]
  · rw [State.port_post, State.port_setPort_other _ _ _ _ (otherPort_ne p)]
  · simp

/-- Settles O8: a transition is a port record written together with a posting; a level that is there already makes none. -/
theorem lineOkMovesTheLink : Obligations.LineOkMovesTheLink := by
  intro p s hr
  simp only [exec_lineOkAssertion, exec_lineOkDeassertion]
  refine ⟨fun hlow => ⟨_, rfl, ?_⟩, fun hhigh => ⟨_, rfl, ?_⟩, fun hhigh => ?_, fun hlow => ?_⟩
  · rw [State.assertLineOk_of_low hr hlow]
    exact s.setPort_post_effect p _ _
  · rw [State.deassertLineOk_of_high hr hhigh]
    exact s.setPort_post_effect p _ _
  · rw [State.assertLineOk_of_high hhigh]
  · rw [State.deassertLineOk_of_low hlow]

/-! ## The release of the reset input -/

theorem exec_resetRelease (first : Port) (s : State) : exec (.resetRelease first) s = .next (s.releaseReset first) := rfl

/-- What the release posts for a port. -/
def State.releasePostings (s : State) (p : Port) : List (Notice × Detail) :=
  if (s.port p).lineOk then [(.linkUp p, .none)] else []

/-- A port's record once the release has followed its line-OK input. -/
def LinkPort.followed (x : LinkPort) : LinkPort :=
  if x.lineOk then { x with link := .up } else x

theorem State.follow_port_self (s : State) (p : Port) : (s.follow p).port p = (s.port p).followed := by
  unfold State.follow LinkPort.followed
  split_ifs
  · rw [State.linkUp, State.port_post, State.port_setPort_self]
  · rfl

theorem State.follow_port_other (s : State) {p p' : Port} (h : p' ≠ p) : (s.follow p).port p' = s.port p' := by
  unfold State.follow
  split_ifs
  · rw [State.linkUp, State.port_post, State.port_setPort_other _ _ _ _ h]
  · rfl

theorem State.follow_notices (s : State) (p : Port) :
    (s.follow p).notices = s.notices.postAll s.time.now (s.releasePostings p) := by
  unfold State.follow State.releasePostings
  split_ifs
  · simp [State.linkUp]
  · rfl

/-- What the following of a line-OK input leaves alone. -/
@[simp] theorem State.follow_frame (s : State) (p : Port) :
    (s.follow p).pending = s.pending ∧ (s.follow p).resetHeld = s.resetHeld ∧ (s.follow p).map = s.map ∧
    (s.follow p).flows = s.flows ∧ (s.follow p).buffer = s.buffer ∧ (s.follow p).calendar = s.calendar ∧
    (s.follow p).ready = s.ready ∧ (s.follow p).time = s.time ∧ (s.follow p).mgmt = s.mgmt ∧
    (s.follow p).counters = s.counters ∧ (s.follow p).probe = s.probe := by
  unfold State.follow
  split_ifs <;> simp

theorem eq_of_ne_otherPort : {p q : Port} → p ≠ otherPort q → p = q
  | .T, .T, _ => rfl
  | .F, .F, _ => rfl
  | .T, .F, h => absurd rfl h
  | .F, .T, h => absurd rfl h

/-- What is left when both ports have followed their line-OK inputs, one after the other. -/
theorem State.follow_both (s : State) (first : Port) :
    let t := (s.follow first).follow (otherPort first)
    t = { s with portT := t.portT, portF := t.portF, notices := t.notices } ∧ (∀ p, t.port p = (s.port p).followed) ∧
      t.notices = s.notices.postAll s.time.now (s.releasePostings first ++ s.releasePostings (otherPort first)) := by
  have hother : (s.follow first).port (otherPort first) = s.port (otherPort first) := s.follow_port_other (otherPort_ne first)
  refine ⟨?_, fun p => ?_, ?_⟩
  · apply State.eq_of_fields <;> simp
  · by_cases hp : p = otherPort first
    · rw [hp, State.follow_port_self, hother]
    · rw [State.follow_port_other _ hp, eq_of_ne_otherPort hp, State.follow_port_self]
  · have hsame : (s.follow first).releasePostings (otherPort first) = s.releasePostings (otherPort first) := by
      rw [State.releasePostings, hother]
      rfl
    rw [State.follow_notices, hsame, State.follow_time, State.follow_notices, NoticeUnit.postAll_append]

theorem State.holdReset_port (s : State) (p : Port) :
    s.holdReset.port p = { lineOk := (s.port p).lineOk, link := .down, tx := none } := by
  cases p <;> rfl

/-- The postings of a release, by the ports whose line-OK input is asserted. -/
theorem State.releasePostings_eq (s : State) (p p' : Port) : s.releasePostings p ++ s.releasePostings p' =
    ([p, p'].filter fun p => (s.port p).lineOk).map fun p => (Notice.linkUp p, Detail.none) := by
  unfold State.releasePostings
  cases hp : (s.port p).lineOk <;> cases hp' : (s.port p').lineOk <;> simp [hp, hp']

/-- Settles O6: the assertion is the reset state written out; the release follows the line-OK input of each port in turn. -/
theorem resetInputHoldsAndReleases : Obligations.ResetInputHoldsAndReleases := by
  refine ⟨fun s => ⟨s.holdReset, rfl, rfl, s.holdReset_port⟩, fun first s => ?_⟩
  rw [exec_resetRelease, State.releaseReset]
  refine ⟨fun hheld => ?_, fun hfree => by rw [if_neg (Bool.eq_false_iff.mp hfree)]⟩
  obtain ⟨hframe, hports, hnotices⟩ := State.follow_both { s with resetHeld := false } first
  rw [if_pos hheld]
  exact ⟨_, rfl, hframe, hports, hnotices.trans (congrArg _ (s.releasePostings_eq first (otherPort first)))⟩

/-! ## What an arrival does, by the class of the cell -/

theorem exec_arrival (p : Port) (cell : List Byte) (s : State) : exec (.arrival p cell) s = .next (s.arrive p cell) := rfl

/-- An arrival at an UP port is the reception of the cell that its bytes make (R111). -/
theorem State.arrive_of_up {s : State} {p : Port} {cell : List Byte} (hlen : cell.length = 32) (hup : (s.port p).link = .up) :
    s.arrive p cell = s.receive p (Cell.ofBytes cell) :=
  if_pos ((s.isArrival_iff p cell).mpr ⟨hlen, hup⟩)

/-- Settles O11: the arrival counts on its port and posts, which write nothing else. -/
theorem badHeaderIsCountedAndReported : Obligations.BadHeaderIsCountedAndReported := by
  intro p cell s hlen hup hbad
  have hgood : ¬ (Cell.ofBytes cell).good = true := fun hgood => hbad (of_decide_eq_true hgood)
  rw [exec_arrival, State.arrive_of_up hlen hup, State.receive, if_neg hgood]
  refine ⟨_, rfl, ?_, fun f => ?_, ?_, ?_, ?_⟩
  · apply State.eq_of_fields <;> simp
  · exact s.flowCounters_setPortCounters f _ p
  · exact s.portCounters_setPortCounters_other p _ _ (otherPort_ne p)
  · exact s.portCounters_setPortCounters_self p _
  · simp

theorem State.countPort_countPort (s : State) (p : Port) (g h : PortCounters → PortCounters) :
    (s.countPort p g).countPort p h = s.setPortCounters p (h (g (s.portCounters p))) := by
  cases p <;> rfl

theorem userClass_of_1023 {c : Cell} (h : c.channel.toNat = 1023) (de : Bool) : userClass c de = .misdirected :=
  dif_neg (by omega)

theorem classify_of_idle {p : Port} {c : Cell} (h : c.kind = .idle) : classify p c = .idle := by
  rw [classify, h]

theorem classify_of_request {c : Cell} (hk : c.kind = .management) (hch : c.channel.toNat = 1023) :
    classify .T c = .request := by
  rw [classify, hk]
  exact if_pos ⟨rfl, hch⟩

theorem classify_of_misdirected {p : Port} {c : Cell}
    (h : (c.kind = .management ∧ (p = .F ∨ c.channel.toNat ≠ 1023)) ∨
      ((c.kind = .user ∨ c.kind = .userDe) ∧ c.channel.toNat = 1023)) : classify p c = .misdirected := by
  unfold classify
  rcases h with ⟨hk, h⟩ | ⟨hk | hk, h⟩ <;> rw [hk]
  · refine if_neg fun ⟨hp, hch⟩ => h.elim (fun hF => ?_) (fun hne => hne hch)
    exact nomatch hp.symm.trans hF
  · exact userClass_of_1023 h _
  · exact userClass_of_1023 h _

section
variable {s : State} {p : Port} {c : Cell} (hgood : c.good = true)
include hgood

theorem State.receive_of_idle (hc : classify p c = .idle) : s.receive p c = s := by
  rw [State.receive, if_pos hgood, hc]

theorem State.receive_of_misdirected (hc : classify p c = .misdirected) :
    s.receive p c = s.setPortCounters p (s.portCounters p).addReceived.addMisdirected := by
  rw [State.receive, if_pos hgood, hc]
  exact s.countPort_countPort p _ _

theorem State.receive_of_request (hc : classify p c = .request) :
    s.receive p c = (s.countPort p PortCounters.addReceived).offerRequest c.payload := by
  rw [State.receive, if_pos hgood, hc]

theorem State.receive_of_unmapped {ch : UserChannel} {de : Bool} (hc : classify p c = .user ch de) (hn : s.lookup p ch = none) :
    s.receive p c = s.setPortCounters p (s.portCounters p).addReceived.addUnmapped := by
  rw [State.receive, if_pos hgood, hc]
  dsimp only
  rw [hn]
  exact s.countPort_countPort p _ _

end

theorem State.offerRequest_of_room {s : State} (h : s.mgmt.requests.length < 4) (r : Payload) :
    s.offerRequest r = s.withMgmt { s.mgmt with requests := s.mgmt.requests ++ [r] } :=
  if_pos h

theorem State.offerRequest_of_full {s : State} (h : 4 ≤ s.mgmt.requests.length) (r : Payload) :
    s.offerRequest r = s.countPort .T PortCounters.addRequestsDropped :=
  if_neg h.not_gt

/-- Settles O12: each clause gives the cell's class, and each class has its own lemma about the reception. -/
theorem receivedCellsAreClassified : Obligations.ReceivedCellsAreClassified := by
  intro p cell s
  refine ⟨fun hdown => congrArg _ (State.arrive_of_down hdown cell), fun hlen hup hcheck => ?_⟩
  have hgood : (Cell.ofBytes cell).good = true := decide_eq_true hcheck
  have received {t : State} (h : s.receive p (Cell.ofBytes cell) = t) : exec (.arrival p cell) s = .next t :=
    congrArg _ ((State.arrive_of_up hlen hup).trans h)
  intro c counted
  refine ⟨fun hk => ?_, fun h => ?_, fun hk hp hch hroom => ?_, fun hk hp hch hfull => ?_,
    fun ch hk hch => ⟨fun hnone => ?_, fun f hf => ?_⟩⟩
  · exact received (State.receive_of_idle hgood (classify_of_idle hk))
  · exact received (State.receive_of_misdirected hgood (classify_of_misdirected h))
  · subst hp
    refine received ((State.receive_of_request hgood (classify_of_request hk hch)).trans ?_)
    exact State.offerRequest_of_room (s := s.countPort .T PortCounters.addReceived) hroom _
  · subst hp
    refine received ((State.receive_of_request hgood (classify_of_request hk hch)).trans ?_)
    exact (State.offerRequest_of_full (s := s.countPort .T PortCounters.addReceived) hfull _).trans (s.countPort_countPort .T _ _)
  · exact received (State.receive_of_unmapped hgood ((classify_eq_user p c ch _).mpr ⟨hk, hch, rfl⟩) hnone)
  · exact congrArg _ (State.arrive_eq_deliver ⟨hlen, hup, hcheck, hk, ⟨ch, hch, hf⟩, rfl⟩)

end Sys2Proof.Machine

namespace Sys2Proof.Machine

/-! ## The small laws, one by one -/

theorem QueuesBounded.same {s t : State} (h : QueuesBounded s) (e : t.mgmt = s.mgmt) : QueuesBounded t := by
  rw [QueuesBounded, e]
  exact h

theorem CacheLaw.same {s t : State} (h : CacheLaw s) (e : t.mgmt = s.mgmt) : CacheLaw t := by
  rw [CacheLaw, e]
  exact h

theorem LinkLaw.same {s t : State} (h : LinkLaw s) (held : t.resetHeld = s.resetHeld) (hT : t.portT = s.portT)
    (hF : t.portF = s.portF) : LinkLaw t := fun p => by
  rw [State.port_congr hT hF p, held]
  exact h p

theorem TimeLaw.same {s t : State} (h : TimeLaw s) (e : t.time = s.time) : TimeLaw t := by
  obtain ⟨hdivisor, hperiod, hcount⟩ := h
  constructor <;> rwa [e]

/-- The probe law after an event that leaves the probe and keeps the live flows live. -/
theorem ProbeLaw.routed {s t : State} (h : ProbeLaw s) (hp : t.probe = s.probe) (hr : RoutesKept s t) : ProbeLaw t := by
  obtain ⟨htarget, hheld, harmed, hdone, hlive⟩ := h
  constructor <;> rw [hp]
  · exact htarget
  · exact hheld
  · exact harmed
  · exact hdone
  · exact fun ha => (hr s.probe.flow (hlive ha)).1

/-- The five small laws are each kept from `s` to `t`. -/
structure KeepsSmallLaws (s t : State) : Prop where
  queues : QueuesBounded s → QueuesBounded t
  cache : CacheLaw s → CacheLaw t
  links : LinkLaw s → LinkLaw t
  time : TimeLaw s → TimeLaw t
  probe : ProbeLaw s → ProbeLaw t

theorem KeepsSmallLaws.refl (s : State) : KeepsSmallLaws s s := ⟨id, id, id, id, id⟩

theorem KeepsSmallLaws.trans {s t u : State} (h : KeepsSmallLaws s t) (k : KeepsSmallLaws t u) : KeepsSmallLaws s u :=
  ⟨k.queues ∘ h.queues, k.cache ∘ h.cache, k.links ∘ h.links, k.time ∘ h.time, k.probe ∘ h.probe⟩

/-- A row that names a part of an event is that event or nothing (log entry 5). -/
theorem KeepsSmallLaws.ite {s t : State} {c : Bool} (h : KeepsSmallLaws s t) : KeepsSmallLaws s (if c then t else s) :=
  iteInduction (motive := KeepsSmallLaws s) (fun _ => h) fun _ => .refl s

/-- `t` has the Management Engine, the links and the Time Base of `s`: everything that the small laws read but the probe and the
flow it is on. -/
structure SamePeriphery (s t : State) : Prop where
  mgmt : t.mgmt = s.mgmt
  resetHeld : t.resetHeld = s.resetHeld
  portT : t.portT = s.portT
  portF : t.portF = s.portF
  time : t.time = s.time

theorem SamePeriphery.keeps {s t : State} (e : SamePeriphery s t) (hp : ProbeLaw s → ProbeLaw t) : KeepsSmallLaws s t where
  queues h := h.same e.mgmt
  cache h := h.same e.mgmt
  links h := h.same e.resetHeld e.portT e.portF
  time h := h.same e.time
  probe := hp

/-- A change of the Management Engine alone. -/
theorem keepsSmallLaws_withMgmt {s : State} {m : Management} (hq : QueuesBounded s → QueuesBounded (s.withMgmt m))
    (hc : CacheLaw s → CacheLaw (s.withMgmt m)) : KeepsSmallLaws s (s.withMgmt m) :=
  ⟨hq, hc, fun h => h.same rfl rfl rfl, fun h => h.same rfl, fun h => h.routed rfl (routesKept_of_flows rfl)⟩

/-! ## The law of the probe -/

/-- An ABORTED probe has no flow to be on. -/
theorem ProbeLaw.aborted {s t : State} (h : ProbeLaw s) (hp : t.probe = { s.probe with state := .aborted }) : ProbeLaw t := by
  obtain ⟨htarget, hheld, -, -, -⟩ := h
  constructor <;> rw [hp]
  · exact htarget
  · exact hheld
  all_goals exact fun hs => nomatch hs

theorem ProbeLaw.of_reset {t : State} (hp : t.probe = Probe.reset) : ProbeLaw t := by
  constructor <;> rw [hp]
  · decide
  · decide
  all_goals exact fun hs => nomatch hs

/-- What a capture by an ARMED probe leaves of its record (R187). -/
theorem Probe.capture_of_armed {p : Probe} (h : p.state = .armed) (t : Stamp) (v : Verdict) (o : Admission) :
    (p.capture t v o).entries.length = p.entries.length + 1 ∧
    ((p.capture t v o).state = .armed ↔ p.entries.length + 1 < p.target) ∧
    ((p.capture t v o).state = .done ↔ p.target ≤ p.entries.length + 1) := by
  refine ⟨by simp [Probe.capture], ?_⟩
  by_cases hc : p.target ≤ p.entries.length + 1
  · simp [Probe.capture, Probe.completes, hc]
  · simp [Probe.capture, Probe.completes, hc, h]
    omega

theorem State.capture_probe {s : State} {f : FlowNo} (h : s.probe.watches f = true) (v : Verdict) (o : Admission) :
    (s.capture f v o).probe = s.probe.capture s.now v o := by
  simp only [State.capture, h, if_true]
  split_ifs <;> rfl

/-- A capture by an ARMED probe adds one entry, and the probe is DONE exactly when that brings the list to its target (R187). -/
theorem ProbeLaw.capture {s : State} (h : ProbeLaw s) (f : FlowNo) (v : Verdict) (o : Admission) :
    ProbeLaw (s.capture f v o) := by
  by_cases hw : s.probe.watches f = true
  · obtain ⟨hstate, -⟩ : s.probe.state = .armed ∧ s.probe.flow = f := by simpa [Probe.watches] using hw
    obtain ⟨hlength, harmed, hdone⟩ := s.probe.capture_of_armed hstate s.now v o
    have hroom := h.armed hstate
    have hflow : (s.capture f v o).flow s.probe.flow = s.flow s.probe.flow := (sameFlows_capture s f v o).flow _
    constructor <;> rw [State.capture_probe hw]
    case target => exact h.target
    case held => exact hlength.trans_le hroom
    case armed => exact fun ha => hlength.trans_lt (harmed.mp ha)
    case done => exact fun hd => hlength.trans (le_antisymm hroom (hdone.mp hd))
    case live => exact fun _ => hflow ▸ h.live hstate
  · rw [State.capture, if_neg hw]
    exact h

/-- The record with the probe aborted where it is ARMED on flow `f` (R190). -/
def Probe.abortedOn (p : Probe) (f : FlowNo) : Probe :=
  if p.state = .armed ∧ p.flow = f then { p with state := .aborted } else p

theorem State.abortProbe_probe (s : State) (f : FlowNo) : (s.abortProbe f).probe = s.probe.abortedOn f := by
  rw [State.abortProbe_eq]
  rfl

/-- The close of flow `f` aborts a probe that is ARMED on it, and leaves every other flow (R190). -/
theorem ProbeLaw.closed {s t : State} {f : FlowNo} (h : ProbeLaw s) (hp : t.probe = s.probe.abortedOn f)
    (hf : ∀ g, g ≠ f → t.flow g = s.flow g) : ProbeLaw t := by
  unfold Probe.abortedOn at hp
  split_ifs at hp with hon
  · exact h.aborted hp
  · have hother (ha : s.probe.state = .armed) : s.probe.flow ≠ f := fun e => hon ⟨ha, e⟩
    obtain ⟨htarget, hheld, harmed, hdone, hlive⟩ := h
    constructor <;> rw [hp]
    case target => exact htarget
    case held => exact hheld
    case armed => exact harmed
    case done => exact hdone
    case live => exact fun ha => hf _ (hother ha) ▸ hlive ha

theorem ProbeLaw.startDrain {s : State} (h : ProbeLaw s) (f : FlowNo) : ProbeLaw (s.startDrain f) :=
  h.closed (State.abortProbe_probe _ f) (sameFlows_startDrain s f).othersKept_of_setFlow.flow

theorem ProbeLaw.closeEmpty {s : State} (h : ProbeLaw s) (f : FlowNo) : ProbeLaw (s.closeEmpty f) :=
  h.closed (State.abortProbe_probe _ f) (sameFlows_closeEmpty s f).othersKept_of_setFlow.flow

theorem State.flush_probe (s : State) (f : FlowNo) : (s.flush f).probe = s.probe.abortedOn f := by
  unfold State.flush
  dsimp only
  split_ifs <;> simp [State.abortProbe_probe]

theorem ProbeLaw.flush {s : State} (h : ProbeLaw s) (f : FlowNo) : ProbeLaw (s.flush f) :=
  h.closed (s.flush_probe f) ((othersKept_unschedule s f).trans (sameFlows_flush s f).othersKept_of_setFlow).flow

theorem ProbeLaw.cancelProbe {s : State} (h : ProbeLaw s) : ProbeLaw s.cancelProbe := by
  unfold State.cancelProbe
  split_ifs
  · exact h.aborted rfl
  · exact h

/-- The arming of the probe on a live flow (R186). -/
theorem probeLaw_armProbe {s : State} {f : FlowNo} {n : Nat} (hpos : 0 < n) (hle : n ≤ 8)
    (hlive : (s.flow f).lifecycle.live = true) : ProbeLaw (s.armProbe f n) where
  target := hle
  held := hpos.le
  armed _ := hpos
  done hd := nomatch hd
  live _ := hlive

end Sys2Proof.Machine

namespace Sys2Proof.Machine

/-! ## The law of the links -/

/-- What the link law asks of one port while the reset input is at the level `held`. -/
def LinkPort.Sound (x : LinkPort) (held : Bool) : Prop :=
  (x.link = .up ↔ x.lineOk = true ∧ held = false) ∧ (x.link = .down → x.tx = none)

theorem linkLaw_iff (s : State) : LinkLaw s ↔ ∀ p, (s.port p).Sound s.resetHeld := .rfl

/-- The law after one port record is written. -/
theorem LinkLaw.written {s t : State} {p : Port} {x : LinkPort} (h : LinkLaw s) (hx : x.Sound s.resetHeld)
    (held : t.resetHeld = s.resetHeld) (hports : ∀ p', t.port p' = (s.setPort p x).port p') : LinkLaw t := by
  refine (linkLaw_iff t).mpr fun p' => ?_
  rw [hports, held]
  by_cases e : p' = p
  · rw [e, State.port_setPort_self]
    exact hx
  · rw [State.port_setPort_other _ _ _ _ e]
    exact h p'

theorem LinkLaw.assertLineOk {s : State} (h : LinkLaw s) (p : Port) : LinkLaw (s.assertLineOk p) := by
  cases hp : (s.port p).lineOk with
  | true => rwa [State.assertLineOk_of_high hp]
  | false =>
    cases hr : s.resetHeld with
    | true =>
      rw [State.assertLineOk_of_held hr]
      have hd := h.down_of_held hr p
      exact h.written (x := { s.port p with lineOk := true }) ⟨by simp [hd, hr], (h p).2⟩ (by simp [State.setLineOk])
        fun _ => rfl
    | false =>
      rw [State.assertLineOk_of_low hr hp]
      exact h.written (x := { s.port p with lineOk := true, link := .up }) ⟨by simp [hr], fun hd => nomatch hd⟩ (by simp)
        fun p' => by rw [State.port_post]

theorem LinkLaw.deassertLineOk {s : State} (h : LinkLaw s) (p : Port) : LinkLaw (s.deassertLineOk p) := by
  cases hp : (s.port p).lineOk with
  | false => rwa [State.deassertLineOk_of_low hp]
  | true =>
    cases hr : s.resetHeld with
    | true =>
      rw [State.deassertLineOk_of_held hr]
      have hd := h.down_of_held hr p
      exact h.written (x := { s.port p with lineOk := false }) ⟨by simp [hd], (h p).2⟩ (by simp [State.setLineOk])
        fun _ => rfl
    | false =>
      rw [State.deassertLineOk_of_high hr hp]
      exact h.written (x := { lineOk := false, link := .down, tx := none }) ⟨by simp, fun _ => rfl⟩ (by simp)
        fun p' => by rw [State.port_post]

/-- The power-on reset brings both ports DOWN, whatever their line-OK inputs are (R118). -/
theorem linkLaw_holdReset (s : State) : LinkLaw s.holdReset := fun p => by
  rw [State.holdReset_port]
  exact ⟨by simp [State.holdReset], fun _ => rfl⟩

/-- At the release both ports are DOWN, and exactly those go UP whose line-OK input is asserted (R118). -/
theorem LinkLaw.releaseReset {s : State} (h : LinkLaw s) (first : Port) : LinkLaw (s.releaseReset first) := by
  unfold State.releaseReset
  split_ifs with hr
  · obtain ⟨-, hports, -⟩ := State.follow_both { s with resetHeld := false } first
    intro p
    have hport : State.port { s with resetHeld := false } p = s.port p := by cases p <;> rfl
    have hd := h.down_of_held hr p
    have htx := (h p).2 hd
    rw [hports, hport, LinkPort.followed]
    cases hp : (s.port p).lineOk <;> simp [hd, hp, htx]
  · exact h

/-- A slot of an UP port changes its transmitter alone (R117). -/
theorem LinkLaw.transmitted {s t : State} {p : Port} {c : Cell} (h : LinkLaw s) (hup : (s.port p).link = .up)
    (held : t.resetHeld = s.resetHeld) (hports : ∀ p', t.port p' = (s.transmit p c).port p') : LinkLaw t :=
  h.written (x := { s.port p with tx := some c }) ⟨(h p).1, fun hd => nomatch hup.symm.trans hd⟩ held hports

/-! ## Slots -/

/-- The arbiter chooses between a flow and IDLE once it has come to the ready lists (R93). -/
theorem State.flowChoice_cases (s : State) (p : Port) : s.flowChoice p = .idle ∨ ∃ q f, s.flowChoice p = .departure q f := by
  unfold State.flowChoice
  cases s.readyHead p with
  | none => exact .inl rfl
  | some x => exact .inr ⟨_, _, rfl⟩

/-- Responses leave by port T alone, from the head of the Response Queue (R94). -/
theorem State.slotChoice_response {s : State} {p : Port} {x : Response} {rest : List Response}
    (h : s.slotChoice p = .response x rest) : p = .T ∧ s.mgmt.responses = x :: rest := by
  have notFlow (p : Port) : s.flowChoice p ≠ .response x rest := by
    rcases s.flowChoice_cases p with e | ⟨q, f, e⟩ <;> rw [e] <;> exact fun h => nomatch h
  have notNotice : s.noticeChoice ≠ .response x rest := by
    unfold State.noticeChoice
    split
    · split_ifs
      · exact fun h => nomatch h
      · exact notFlow .T
    · exact notFlow .T
  cases p with
  | F => exact absurd h (notFlow .F)
  | T =>
    unfold State.slotChoice at h
    cases hm : s.mgmt.responses with
    | nil =>
      rw [hm] at h
      exact absurd h notNotice
    | cons y l =>
      rw [hm] at h
      obtain ⟨rfl, rfl⟩ := SlotChoice.response.inj h
      exact ⟨rfl, rfl⟩

/-- Notices leave by port T alone (R95). -/
theorem State.slotChoice_notice {s : State} {p : Port} {r : NoticeRecord} (h : s.slotChoice p = .notice r) : p = .T := by
  cases p with
  | T => rfl
  | F =>
    have hf : s.flowChoice .F = .notice r := h
    rcases s.flowChoice_cases .F with e | ⟨q, f, e⟩ <;> rw [e] at hf <;> exact nomatch hf

/-- Each slot puts a cell in the transmitter of its port, and touches no other part of the ports (R93, R117). -/
theorem State.openSlot_transmits (s : State) (p : Port) :
    ∃ c, ∀ p', (s.openSlot p).port p' = (s.transmit p c).port p' := by
  unfold State.openSlot
  cases hc : s.slotChoice p with
  | response x rest =>
    obtain ⟨rfl, -⟩ := State.slotChoice_response hc
    exact ⟨managementCell x.payload,
      fun p' => by cases p' <;> simp [State.sendResponse, State.port, State.transmit, State.setPort]⟩
  | notice r =>
    obtain rfl := State.slotChoice_notice hc
    exact ⟨managementCell (r.payload s.notices.seq),
      fun p' => by cases p' <;> simp [State.sendNotice, State.port, State.transmit, State.setPort]⟩
  | idle => exact ⟨idleCell, fun _ => rfl⟩
  | departure q f =>
    dsimp only
    cases hq : (s.flow f).queue with
    | nil =>
      rw [State.depart, hq]
      refine ⟨idleCell, fun p' => ?_⟩
      cases p <;> cases p' <;> rfl
    | cons slot rest =>
      obtain ⟨hT, hF, -, -⟩ := State.depart_sends hq p q
      exact ⟨_, fun p' => (State.port_congr hT hF p').trans (s.sendHead_port p q f slot rest p')⟩

/-- A slot changes of the Management Engine at most the Response Queue, which grows no longer (R94). -/
theorem State.openSlot_mgmt (s : State) (p : Port) :
    ∃ l, l.length ≤ s.mgmt.responses.length ∧ (s.openSlot p).mgmt = { s.mgmt with responses := l } := by
  unfold State.openSlot
  cases hc : s.slotChoice p with
  | response x rest =>
    obtain ⟨-, hm⟩ := State.slotChoice_response hc
    exact ⟨rest, by simp [hm], by simp [State.sendResponse]⟩
  | notice r => exact ⟨_, le_rfl, by simp⟩
  | departure q f => exact ⟨_, le_rfl, by simp⟩
  | idle => exact ⟨_, le_rfl, by simp⟩

theorem keepsSmallLaws_egress (s : State) (p : Port) : KeepsSmallLaws s (s.egress p) := by
  cases hl : (s.port p).link with
  | down =>
    rw [State.egress_of_down hl]
    exact .refl s
  | up =>
    have hroutes := routesKept_egress s p
    rw [State.egress_of_up hl] at hroutes ⊢
    obtain ⟨c, hports⟩ := s.openSlot_transmits p
    obtain ⟨l, hlength, hmgmt⟩ := s.openSlot_mgmt p
    obtain ⟨-, hheld, -, htime, hprobe⟩ := s.openSlot_frame p
    refine ⟨fun ⟨hreq, hres⟩ => ?_, fun h => ?_, fun h => h.transmitted hl hheld hports, fun h => h.same htime,
      fun h => h.routed hprobe hroutes⟩
    · rw [QueuesBounded, hmgmt]
      exact ⟨hreq, hlength.trans hres⟩
    · rw [CacheLaw, hmgmt]
      exact h

/-! ## Arrivals -/

theorem keepsSmallLaws_countPort (s : State) (p : Port) (g : PortCounters → PortCounters) :
    KeepsSmallLaws s (s.countPort p g) :=
  SamePeriphery.keeps (by constructor <;> simp) fun h => h.routed (by simp) (sameFlows_countPort s p g).routesKept

/-- A request is appended only below 4 (R114, R127). -/
theorem keepsSmallLaws_offerRequest (s : State) (r : Payload) : KeepsSmallLaws s (s.offerRequest r) := by
  by_cases hroom : s.mgmt.requests.length < 4
  · rw [State.offerRequest_of_room hroom]
    exact keepsSmallLaws_withMgmt (fun ⟨_, hres⟩ => ⟨by simpa using hroom, hres⟩) id
  · rw [State.offerRequest_of_full (not_lt.mp hroom)]
    exact keepsSmallLaws_countPort s .T _

theorem keepsSmallLaws_deliver (s : State) (f : FlowNo) (c : StoredCell) : KeepsSmallLaws s (s.deliver f c) :=
  SamePeriphery.keeps (by constructor <;> simp) fun h =>
    ProbeLaw.capture (h.routed (by simp) (routesKept_admitCell s f c)) f _ _

theorem keepsSmallLaws_receive (s : State) (p : Port) (c : Cell) : KeepsSmallLaws s (s.receive p c) := by
  have counted := keepsSmallLaws_countPort s p
  unfold State.receive
  split_ifs
  · dsimp only
    cases classify p c with
    | idle => exact .refl s
    | misdirected => exact (counted _).trans (keepsSmallLaws_countPort _ _ _)
    | request => exact (counted _).trans (keepsSmallLaws_offerRequest _ _)
    | user ch de =>
      dsimp only
      cases s.lookup p ch with
      | none => exact (counted _).trans (keepsSmallLaws_countPort _ _ _)
      | some f => exact (counted _).trans (keepsSmallLaws_deliver _ f _)
  · exact (counted _).trans (SamePeriphery.keeps ⟨rfl, rfl, rfl, rfl, rfl⟩ fun h => h.routed rfl (routesKept_of_flows rfl))

theorem keepsSmallLaws_arrive (s : State) (p : Port) (cell : List Byte) : KeepsSmallLaws s (s.arrive p cell) := by
  unfold State.arrive
  split_ifs
  · exact keepsSmallLaws_receive s p _
  · exact .refl s

/-! ## Time -/

/-- The period that a tick begins is of the stored divisor, and its count starts from 0 (R43, R46). -/
theorem TimeLaw.tick {s : State} (h : TimeLaw s) : TimeLaw s.tick := by
  cases hr : s.resetHeld with
  | true => rwa [State.tick_of_held hr]
  | false =>
    constructor <;> rw [State.tick_time hr]
    case divisor => exact h.divisor
    case period => exact h.divisor
    case count => exact h.divisor.1

theorem keepsSmallLaws_tick (s : State) : KeepsSmallLaws s s.tick where
  queues h := h.same (by simp)
  cache h := h.same (by simp)
  links h := h.same (by simp) (by simp) (by simp)
  time := TimeLaw.tick
  probe h := h.routed (by simp) (routesKept_tick s)

/-- A step with no command waiting counts a period that does not complete the one under way, or makes the tick (R43). -/
theorem keepsSmallLaws_clockPeriod (s : State) : KeepsSmallLaws s s.clockPeriod := by
  cases hr : s.resetHeld with
  | true =>
    rw [State.clockPeriod_of_held hr]
    exact .refl s
  | false =>
    by_cases hc : s.time.count + 1 < s.time.period
    · rw [State.clockPeriod_of_lt hr hc]
      exact ⟨id, id, fun h => h.same rfl rfl rfl, fun ⟨hdivisor, hperiod, _⟩ => ⟨hdivisor, hperiod, hc⟩,
        fun h => h.routed rfl (routesKept_of_flows rfl)⟩
    · rw [State.clockPeriod_of_le hr (not_lt.mp hc)]
      exact keepsSmallLaws_tick s

/-! ## The pins -/

theorem keepsSmallLaws_assertLineOk (s : State) (p : Port) : KeepsSmallLaws s (s.assertLineOk p) where
  queues h := h.same (by simp)
  cache h := h.same (by simp)
  links h := h.assertLineOk p
  time h := h.same (by simp)
  probe h := h.routed (by simp) (sameFlows_assertLineOk s p).routesKept

theorem keepsSmallLaws_deassertLineOk (s : State) (p : Port) : KeepsSmallLaws s (s.deassertLineOk p) where
  queues h := h.same (by simp)
  cache h := h.same (by simp)
  links h := h.deassertLineOk p
  time h := h.same (by simp)
  probe h := h.routed (by simp) (sameFlows_deassertLineOk s p).routesKept

/-- The power-on reset establishes each of the laws. -/
theorem keepsSmallLaws_holdReset (s : State) : KeepsSmallLaws s s.holdReset := by
  obtain ⟨hqueues, hcache, -, htime, -⟩ := lawsHoldAtReset
  exact ⟨fun _ => hqueues.same rfl, fun _ => hcache.same rfl, fun _ => linkLaw_holdReset s, fun _ => htime.same rfl,
    fun _ => .of_reset rfl⟩

theorem keepsSmallLaws_releaseReset (s : State) (first : Port) : KeepsSmallLaws s (s.releaseReset first) := by
  have hframe : (s.releaseReset first).mgmt = s.mgmt ∧ (s.releaseReset first).time = s.time ∧
      (s.releaseReset first).probe = s.probe := by
    unfold State.releaseReset
    split_ifs <;> simp
  obtain ⟨hmgmt, htime, hprobe⟩ := hframe
  exact ⟨fun h => h.same hmgmt, fun h => h.same hmgmt, fun h => h.releaseReset first, fun h => h.same htime,
    fun h => h.routed hprobe (sameFlows_releaseReset s first).routesKept⟩

end Sys2Proof.Machine

namespace Sys2Proof.Machine

/-! ## What the reply to a request is -/

/-- What every request's checks and effect have in common: they leave the Management Engine to the taking, they keep the small
laws, and a reply that is neither OK nor ACCEPTED comes with the state as it was (R132). -/
structure Answers (s : State) (x : Reply) : Prop where
  mgmt : x.state.mgmt = s.mgmt
  keeps : KeepsSmallLaws s x.state
  refusal : x.status ≠ .ok → x.status ≠ .accepted → x.state = s

theorem answers_of_unchanged {s : State} {x : Reply} (h : x.state = s) : Answers s x :=
  ⟨by rw [h], h ▸ .refl s, fun _ _ => h⟩

/-- A request that is done, or started, outside the Management Engine, the links and the Time Base. -/
theorem SamePeriphery.answers {s : State} {x : Reply} (e : SamePeriphery s x.state) (hp : ProbeLaw s → ProbeLaw x.state)
    (hs : x.status = .ok ∨ x.status = .accepted) : Answers s x :=
  ⟨e.mgmt, e.keeps hp, fun hok hacc => absurd hs (not_or.mpr ⟨hok, hacc⟩)⟩

theorem answers_checked {α : Type} {o : Option α} {st : Status} {s : State} {k : α → Reply}
    (hk : ∀ a, o = some a → Answers s (k a)) : Answers s (checked o st s k) := by
  cases o with
  | none => exact answers_of_unchanged rfl
  | some a => exact hk a rfl

theorem answers_require {c : Bool} {st : Status} {s : State} {k : Reply} (hk : c = true → Answers s k) :
    Answers s (require c st s k) := by
  cases c with
  | false => exact answers_of_unchanged rfl
  | true => exact hk rfl

theorem answers_withFlow {r : Payload} {n : Nat} {s : State} {k : FlowNo → Reply} (hk : ∀ f, Answers s (k f)) :
    Answers s (withFlow r n s k) :=
  answers_checked fun f _ => hk f

/-! ### The requests -/

section
variable (r : Payload) (s : State)

theorem answers_setTimebase : Answers s (runSetTimebase r s) := by
  refine answers_checked fun n hn => answers_require fun _ => ⟨rfl, ?_, fun hok _ => absurd rfl hok⟩
  exact ⟨id, id, fun h => h.same rfl rfl rfl, fun ⟨_, hperiod, hcount⟩ => ⟨within_le hn, hperiod, hcount⟩,
    fun h => h.routed rfl (routesKept_of_flows rfl)⟩

theorem answers_openFlow : Answers s (runOpenFlow r s) :=
  answers_withFlow fun _ => answers_checked fun _ _ => answers_checked fun _ _ => answers_checked fun _ _ =>
    answers_checked fun _ _ => answers_checked fun _ _ => answers_require fun hu =>
      SamePeriphery.answers ⟨rfl, rfl, rfl, rfl, rfl⟩
        (fun h => h.routed rfl (routesKept_of_unused (of_decide_eq_true hu) ⟨rfl, rfl, rfl, rfl, rfl⟩)) (.inl rfl)

theorem answers_stateSetContract (f : FlowNo) (c : Contract) : Answers s (s.setContract f c) := by
  have hroutes := routesKept_setContract s f c
  unfold State.setContract at hroutes ⊢
  dsimp only at hroutes ⊢
  split_ifs at hroutes ⊢
  · exact SamePeriphery.answers (by constructor <;> simp [okReply]) (fun h => h.routed (by simp [okReply]) hroutes) (.inl rfl)
  · exact SamePeriphery.answers ⟨rfl, rfl, rfl, rfl, rfl⟩ (fun h => h.routed rfl hroutes) (.inr rfl)
  · exact SamePeriphery.answers ⟨rfl, rfl, rfl, rfl, rfl⟩ (fun h => h.routed rfl hroutes) (.inr rfl)

theorem answers_setContract : Answers s (runSetContract r s) :=
  answers_withFlow fun f => answers_require fun _ => answers_checked fun c _ => answers_stateSetContract s f c

theorem answers_commitContract : Answers s (runCommitContract r s) :=
  answers_withFlow fun f => answers_require fun _ => answers_require fun _ =>
    SamePeriphery.answers (by constructor <;> simp [okReply])
      (fun h => h.routed (by simp [okReply]) (routesKept_promoteNow s f)) (.inl rfl)

theorem answers_suspendFlow : Answers s (runSuspendFlow r s) :=
  answers_withFlow fun f => answers_require fun _ =>
    SamePeriphery.answers (by constructor <;> simp [okReply])
      (fun h => h.routed (by simp [okReply]) (routesKept_suspend s f)) (.inl rfl)

theorem answers_resumeFlow : Answers s (runResumeFlow r s) := by
  refine answers_withFlow fun f => answers_checked fun restart _ => answers_require fun _ => ?_
  rw [s.resume_eq f restart]
  exact SamePeriphery.answers (by constructor <;> simp [okReply, State.resume])
    (fun h => h.routed (by simp [okReply, State.resume]) (routesKept_resume s f restart)) (.inl rfl)

/-- A DRAIN of an OPEN flow closes it at once or starts its drain; any other is refused (R32 to R34). -/
theorem answers_closeDrain (f : FlowNo) : Answers s (s.closeDrain f) := by
  unfold State.closeDrain
  cases (s.flow f).lifecycle with
  | opened =>
    dsimp only
    split_ifs
    · exact SamePeriphery.answers (by constructor <;> simp [okReply]) (fun h => h.closeEmpty f) (.inl rfl)
    · exact SamePeriphery.answers (by constructor <;> simp [acceptReply]) (fun h => h.startDrain f) (.inr rfl)
  | unused => exact answers_of_unchanged rfl
  | suspended => exact answers_of_unchanged rfl
  | draining => exact answers_of_unchanged rfl

theorem answers_closeFlush (f : FlowNo) : Answers s (s.closeFlush f) := by
  by_cases hl : (s.flow f).lifecycle = .unused
  · rw [State.closeFlush, hl]
    exact answers_of_unchanged rfl
  · rw [State.closeFlush_of_used hl]
    exact SamePeriphery.answers (by constructor <;> simp [okReply]) (fun h => h.flush f) (.inl rfl)

theorem answers_closeFlow : Answers s (runCloseFlow r s) := by
  refine answers_withFlow fun f => answers_checked fun flush _ => answers_require fun _ => ?_
  cases flush with
  | false => exact answers_closeDrain s f
  | true => exact answers_closeFlush s f

theorem answers_readFlow : Answers s (runReadFlow r s) :=
  answers_withFlow fun _ => answers_checked fun _ _ => answers_of_unchanged rfl

/-- A request whose effect is on a part that no small law reads, the flows left as they are. -/
theorem answers_of_flows {u : State} {data : List Byte} (e : SamePeriphery s u) (hp : u.probe = s.probe)
    (hf : u.flows = s.flows) : Answers s (okReply u data) :=
  SamePeriphery.answers e (fun h => h.routed hp (routesKept_of_flows hf)) (.inl rfl)

theorem answers_prepareMap : Answers s (runPrepareMap r s) :=
  answers_checked fun _ _ => answers_of_flows s ⟨rfl, rfl, rfl, rfl, rfl⟩ rfl rfl

theorem answers_writeMap : Answers s (runWriteMap r s) :=
  answers_checked fun _ _ => answers_checked fun _ _ => answers_checked fun _ _ => answers_require fun _ =>
    answers_checked fun _ _ => answers_of_flows s ⟨rfl, rfl, rfl, rfl, rfl⟩ rfl rfl

theorem answers_readMap : Answers s (runReadMap r s) :=
  answers_checked fun _ _ => answers_checked fun _ _ => answers_checked fun _ _ => answers_checked fun _ _ =>
    answers_require fun _ => answers_of_unchanged rfl

theorem answers_swapMap : Answers s (runSwapMap r s) := by
  unfold runSwapMap
  split
  next => exact answers_of_unchanged rfl
  next => exact answers_of_flows s ⟨rfl, rfl, rfl, rfl, rfl⟩ rfl rfl

theorem answers_setWatermarks : Answers s (runSetWatermarks r s) :=
  answers_checked fun _ _ => answers_require fun _ => answers_of_flows s (by constructor <;> simp) (by simp) (by simp)

theorem answers_readPool : Answers s (runReadPool r s) :=
  answers_of_flows s ⟨rfl, rfl, rfl, rfl, rfl⟩ rfl rfl

theorem answers_readCounters : Answers s (runReadCounters r s) := by
  refine answers_checked fun port _ => ?_
  cases port with
  | true =>
    refine answers_checked fun p _ => answers_checked fun clear _ => ?_
    cases clear with
    | true => exact answers_of_flows s (by constructor <;> simp) (by simp) (by simp)
    | false => exact answers_of_unchanged rfl
  | false =>
    refine answers_withFlow fun f => answers_checked fun clear _ => ?_
    cases clear with
    | true => exact answers_of_flows s ⟨rfl, rfl, rfl, rfl, rfl⟩ rfl rfl
    | false => exact answers_of_unchanged rfl

/-- A cancel aborts the probe; an arming is of a count of 1..8 on a live flow (R186, R189). -/
theorem answers_startProbe : Answers s (runStartProbe r s) := by
  refine answers_checked fun n hn => ?_
  split_ifs with hzero
  · exact SamePeriphery.answers (by constructor <;> simp [okReply]) ProbeLaw.cancelProbe (.inl rfl)
  · refine answers_withFlow fun f => answers_require fun _ => answers_require fun hlive => ?_
    exact SamePeriphery.answers ⟨rfl, rfl, rfl, rfl, rfl⟩
      (fun _ => probeLaw_armProbe (Nat.pos_of_ne_zero hzero) (within_le hn).2 hlive) (.inr rfl)

theorem answers_grantNotices : Answers s (runGrantNotices r s) :=
  answers_checked fun _ _ => answers_of_flows s ⟨rfl, rfl, rfl, rfl, rfl⟩ rfl rfl

theorem answers_setNoticeEnable : Answers s (runSetNoticeEnable r s) :=
  answers_checked fun _ _ => answers_of_flows s ⟨rfl, rfl, rfl, rfl, rfl⟩ rfl rfl

theorem answers_softReset : Answers s (runSoftReset r s) :=
  SamePeriphery.answers ⟨rfl, rfl, rfl, rfl, rfl⟩ (fun _ => .of_reset rfl) (.inl rfl)

end

/-! ### The rows -/

/-- Row `i` is the taking of a request whose code satisfies `mine`, which are the codes of the row, executed by `run`. -/
structure TakenBy (i : Instr) (mine : Byte → Bool) (run : Payload → State → Reply) : Prop where
  exec : ∀ s, exec i s = .next (s.take mine run)
  codes : ∀ c, mine c = decide (rowOf c = i)
  answers : ∀ r s, Answers s (run r s)

theorem knownCode_iff (c : Byte) : knownCode c = true ↔ 1 ≤ c.toNat ∧ c.toNat ≤ 0x16 := by
  simp [knownCode, BitVec.le_def]

/-- The rows of the 22 requests stand in the order of their codes, with UNKNOWN_REQUEST last (R193, R196). -/
theorem rowOf_ctorIdx : ∀ c : Byte, (rowOf c).ctorIdx = if knownCode c then c.toNat + 10 else 33 := by
  decide +kernel

/-- No other code has the row of a code 0x01..0x16. -/
theorem rowOf_inj_of_known {c d : Byte} (hd : knownCode d = true) (h : rowOf c = rowOf d) : c = d := by
  have hidx : (rowOf c).ctorIdx = d.toNat + 10 := by rw [h, rowOf_ctorIdx, if_pos hd]
  have hle := ((knownCode_iff d).mp hd).2
  rw [rowOf_ctorIdx] at hidx
  split_ifs at hidx
  · exact BitVec.eq_of_toNat_eq (by omega)
  · omega

theorem takenBy_of_known {d : Byte} {run : Payload → State → Reply} (hd : knownCode d = true)
    (he : ∀ s, Machine.exec (rowOf d) s = takeRequest d run s) (ha : ∀ r s, Answers s (run r s)) :
    ∃ mine run, TakenBy (rowOf d) mine run :=
  ⟨_, _, he, fun _ => decide_eq_decide.mpr ⟨congrArg rowOf, rowOf_inj_of_known hd⟩, ha⟩

/-- The codes outside 0x01..0x16 are those of UNKNOWN_REQUEST (R196). -/
theorem not_knownCode_eq : ∀ c : Byte, (!knownCode c) = decide (rowOf c = .unknownRequest) := by
  decide +kernel

/-- Each request row is the taking of a request of its own codes, and what executes the request is an answer to it. -/
theorem takenBy_of_isRequestRow {i : Instr} (h : isRequestRow i = true) : ∃ mine run, TakenBy i mine run := by
  cases i with
  | arrival p cell => exact nomatch h
  | probeCompletion p cell => exact nomatch h
  | cycleBoundaryPromotion e => exact nomatch h
  | tick => exact nomatch h
  | calendarService => exact nomatch h
  | egressSlot p => exact nomatch h
  | drainCompletion p => exact nomatch h
  | lineOkAssertion p => exact nomatch h
  | lineOkDeassertion p => exact nomatch h
  | resetAssertion => exact nomatch h
  | resetRelease first => exact nomatch h
  | sync => exact takenBy_of_known (d := codeSync) rfl (fun _ => rfl) (fun _ _ => answers_of_unchanged rfl)
  | readTime => exact takenBy_of_known (d := codeReadTime) rfl (fun _ => rfl) (fun _ _ => answers_of_unchanged rfl)
  | setTimebase => exact takenBy_of_known (d := codeSetTimebase) rfl (fun _ => rfl) answers_setTimebase
  | openFlow => exact takenBy_of_known (d := codeOpenFlow) rfl (fun _ => rfl) answers_openFlow
  | setContract => exact takenBy_of_known (d := codeSetContract) rfl (fun _ => rfl) answers_setContract
  | commitContract => exact takenBy_of_known (d := codeCommitContract) rfl (fun _ => rfl) answers_commitContract
  | suspendFlow => exact takenBy_of_known (d := codeSuspendFlow) rfl (fun _ => rfl) answers_suspendFlow
  | resumeFlow => exact takenBy_of_known (d := codeResumeFlow) rfl (fun _ => rfl) answers_resumeFlow
  | closeFlow => exact takenBy_of_known (d := codeCloseFlow) rfl (fun _ => rfl) answers_closeFlow
  | readFlow => exact takenBy_of_known (d := codeReadFlow) rfl (fun _ => rfl) answers_readFlow
  | prepareMap => exact takenBy_of_known (d := codePrepareMap) rfl (fun _ => rfl) answers_prepareMap
  | writeMap => exact takenBy_of_known (d := codeWriteMap) rfl (fun _ => rfl) answers_writeMap
  | readMap => exact takenBy_of_known (d := codeReadMap) rfl (fun _ => rfl) answers_readMap
  | swapMap => exact takenBy_of_known (d := codeSwapMap) rfl (fun _ => rfl) answers_swapMap
  | setWatermarks => exact takenBy_of_known (d := codeSetWatermarks) rfl (fun _ => rfl) answers_setWatermarks
  | readPool => exact takenBy_of_known (d := codeReadPool) rfl (fun _ => rfl) answers_readPool
  | readCounters => exact takenBy_of_known (d := codeReadCounters) rfl (fun _ => rfl) answers_readCounters
  | startProbe => exact takenBy_of_known (d := codeStartProbe) rfl (fun _ => rfl) answers_startProbe
  | readProbe => exact takenBy_of_known (d := codeReadProbe) rfl (fun _ => rfl) (fun _ _ => answers_of_unchanged rfl)
  | grantNotices => exact takenBy_of_known (d := codeGrantNotices) rfl (fun _ => rfl) answers_grantNotices
  | setNoticeEnable => exact takenBy_of_known (d := codeSetNoticeEnable) rfl (fun _ => rfl) answers_setNoticeEnable
  | softReset => exact takenBy_of_known (d := codeSoftReset) rfl (fun _ => rfl) answers_softReset
  | unknownRequest => exact ⟨_, _, fun _ => rfl, not_knownCode_eq, fun _ _ => answers_of_unchanged rfl⟩

end Sys2Proof.Machine

namespace Sys2Proof.Machine

/-! ## The Management Engine's own statements -/

theorem isRequestRow_rowOf : ∀ c : Byte, isRequestRow (rowOf c) = true := by
  decide +kernel

/-- What an executed request leaves: its effect, and the Management Engine with its response (R131, R132). -/
theorem TakenBy.exec_executes {i : Instr} {mine : Byte → Bool} {run : Payload → State → Reply} (k : TakenBy i mine run)
    {s : State} {r : Payload} {rest : List Payload} (h : Takes s r rest) (hi : rowOf (requestCode r) = i)
    (ht : requestCode r = 0x01 ∨ requestTag r = s.mgmt.expected) :
    Machine.exec i s = .next { (run r (s.dequeue rest)).state with
      mgmt := s.mgmt.answered r rest (run r (s.dequeue rest)).status (run r (s.dequeue rest)).data } := by
  have hm : mine (requestCode r) = true := by rw [k.codes, decide_eq_true hi]
  rw [k.exec, take_executes s mine run r rest h.head h.room hm ht,
    State.conclude_eq s _ r rest _ _ (k.answers r (s.dequeue rest)).mgmt]

/-- Settles O27: the row of a request's code takes it, and each case of the sequence table has its own lemma about a taking. -/
theorem tagSequencingTable : Obligations.TagSequencingTable := by
  refine ⟨fun s r rest h => ?_, rfl, rfl⟩
  obtain ⟨mine, run, k⟩ := takenBy_of_isRequestRow (isRequestRow_rowOf (requestCode r))
  have hm : mine (requestCode r) = true := by rw [k.codes, decide_eq_true rfl]
  refine ⟨fun ht => ⟨_, _, k.exec_executes h rfl ht, rfl, rfl, rfl⟩, fun x hc ht hd hx => ?_, fun hc ht hn => ?_⟩
  · rw [k.exec, take_replays s mine run r rest x h.head h.room hm hc ht hd hx]
  · rw [k.exec, take_refuses s mine run r rest h.head h.room hm hc ht hn]
    rfl

/-- A taking that appends one response with a refusal leaves everything but the Management Engine (R132). -/
theorem take_refusal {mine : Byte → Bool} {run : Payload → State → Reply} (hrun : ∀ r s, Answers s (run r s)) {s : State}
    {x : Response} (hx : (s.take mine run).mgmt.responses = s.mgmt.responses ++ [x]) (hok : x.status ≠ .ok)
    (hacc : x.status ≠ .accepted) : s.take mine run = { s with mgmt := (s.take mine run).mgmt } := by
  rcases take_cases s mine run with e | ⟨r, rest, -, -, -, ⟨-, e⟩ | ⟨y, -, e⟩⟩
  · rw [e]
  · have hr := hrun r (s.dequeue rest)
    rw [State.conclude_eq s _ r rest _ _ hr.mgmt] at e
    rw [e] at hx ⊢
    obtain rfl := List.singleton_inj.mp (List.append_cancel_left hx)
    rw [hr.refusal hok hacc]
    rfl
  · rw [e]

/-- Settles O28: a refusal comes with the state as the request found it, whichever row takes it, and UNKNOWN_REQUEST always
refuses. -/
theorem refusalsAndUnknownRequestsChangeNothing : Obligations.RefusalsAndUnknownRequestsChangeNothing := by
  refine ⟨fun i s t x hi e hx hok hacc => ?_, fun s r rest code h hcode => ?_⟩
  · obtain ⟨mine, run, k⟩ := takenBy_of_isRequestRow hi
    obtain rfl := eq_of_next e (k.exec s)
    exact take_refusal k.answers hx hok hacc
  · have hunknown : knownCode (requestCode r) = false := by
      rw [Bool.eq_false_iff, ne_eq, knownCode_iff, h.code]
      rcases hcode with rfl | hlarge
      · decide
      · omega
    exact congrArg _ (take_executes s (fun c => !knownCode c) runUnknown r rest h.head h.room (by simp [hunknown]) (.inr h.tag))

/-- Settles O29: nothing is taken without room, without a request, or by a row whose codes the request's is not one of. -/
theorem nothingIsTakenWithoutRoom : Obligations.NothingIsTakenWithoutRoom := by
  intro i s hi
  obtain ⟨mine, run, k⟩ := takenBy_of_isRequestRow hi
  refine ⟨fun hfull => ?_, fun hempty => ?_, fun r rest hhead hother => ?_⟩
  · rw [k.exec, take_stalls s mine run hfull]
  · rw [k.exec, take_empty s mine run hempty]
  · rw [k.exec, take_other s mine run r rest hhead (by rw [k.codes, decide_eq_false hother])]

/-! ## Every command, and every step, keeps the small laws -/

/-- A request leaves the Request Queue (R128). -/
theorem keepsSmallLaws_dequeue {s : State} {r : Payload} {rest : List Payload} (h : s.mgmt.requests = r :: rest) :
    KeepsSmallLaws s (s.dequeue rest) := by
  refine keepsSmallLaws_withMgmt (fun ⟨hreq, hres⟩ => ⟨?_, hres⟩) id
  rw [h] at hreq
  exact (Nat.le_succ _).trans hreq

/-- A response is appended while fewer than 4 wait, and Q and the cache are left (R134, R135). -/
theorem keepsSmallLaws_respond {s : State} (h : s.mgmt.responses.length < 4) (x : Response) : KeepsSmallLaws s (s.respond x) :=
  keepsSmallLaws_withMgmt (fun ⟨hreq, _⟩ => ⟨hreq, by simpa using h⟩) id

/-- A response is appended while fewer than 4 wait, and the one that is cached has the tag before the new Q (R131, R134). -/
theorem keepsSmallLaws_conclude {s : State} (h : s.mgmt.responses.length < 4) (r : Payload) (st : Status) (data : List Byte) :
    KeepsSmallLaws s (s.conclude r (responseTo r st data)) := by
  refine keepsSmallLaws_withMgmt (fun ⟨hreq, _⟩ => ⟨hreq, by simpa using h⟩) fun _ x hx => ?_
  obtain rfl := Option.some.inj hx
  exact (BitVec.add_sub_cancel _ _).symm

/-- A taking is made of these: the request leaves, its effect is made or not, and a response is appended. -/
theorem keepsSmallLaws_take {mine : Byte → Bool} {run : Payload → State → Reply} (hrun : ∀ r s, Answers s (run r s))
    (s : State) : KeepsSmallLaws s (s.take mine run) := by
  rcases take_cases s mine run with e | ⟨r, rest, hhead, hroom, -, ⟨-, e⟩ | ⟨x, -, e⟩⟩ <;> rw [e]
  · exact .refl s
  · have hr := hrun r (s.dequeue rest)
    have hroom' : (run r (s.dequeue rest)).state.mgmt.responses.length < 4 := by
      rw [hr.mgmt]
      exact hroom
    exact ((keepsSmallLaws_dequeue hhead).trans hr.keeps).trans (keepsSmallLaws_conclude hroom' r _ _)
  · exact (keepsSmallLaws_dequeue hhead).trans (keepsSmallLaws_respond (s := s.dequeue rest) hroom x)

theorem keepsSmallLaws_exec {s t : State} {i : Instr} (e : exec i s = .next t) : KeepsSmallLaws s t := by
  have next : ∀ {u : State}, KeepsSmallLaws s u → (.next u : Host.Outcome State Fault Refusal) = .next t →
      KeepsSmallLaws s t := by
    rintro u hu ⟨⟩
    exact hu
  by_cases hi : isRequestRow i = true
  · obtain ⟨mine, run, k⟩ := takenBy_of_isRequestRow hi
    exact next (keepsSmallLaws_take k.answers s) ((k.exec s).symm.trans e)
  · cases i with
    | arrival p cell => exact next (keepsSmallLaws_arrive s p cell) e
    | probeCompletion p cell => exact next (keepsSmallLaws_arrive s p cell).ite e
    | cycleBoundaryPromotion ev =>
      cases ev with
      | arrival p cell => exact next (keepsSmallLaws_arrive s p cell).ite e
      | slot p => exact next (keepsSmallLaws_egress s p).ite e
    | tick => exact next (keepsSmallLaws_tick s) e
    | calendarService => exact next (keepsSmallLaws_tick s).ite e
    | egressSlot p => exact next (keepsSmallLaws_egress s p) e
    | drainCompletion p => exact next (keepsSmallLaws_egress s p).ite e
    | lineOkAssertion p => exact next (keepsSmallLaws_assertLineOk s p) e
    | lineOkDeassertion p => exact next (keepsSmallLaws_deassertLineOk s p) e
    | resetAssertion => exact next (keepsSmallLaws_holdReset s) e
    | resetRelease first => exact next (keepsSmallLaws_releaseReset s first) e
    | _ => exact absurd rfl hi

/-- Settles O54: each command keeps each of the laws, and so does the passing of a reference-clock period. -/
theorem smallLawsAreKept : Obligations.SmallLawsAreKept := by
  intro s t e
  have h : KeepsSmallLaws s t := by
    cases hp : s.pending with
    | nil =>
      obtain rfl := eq_of_next e (step_of_idle hp)
      exact keepsSmallLaws_clockPeriod s
    | cons c rest =>
      rw [step_of_queued hp] at e
      have hq : KeepsSmallLaws s { s with pending := rest } :=
        SamePeriphery.keeps ⟨rfl, rfl, rfl, rfl, rfl⟩ fun h => h.routed rfl (routesKept_of_flows rfl)
      exact hq.trans (keepsSmallLaws_exec e)
  exact ⟨h.queues, h.cache, h.links, h.time, h.probe⟩

end Sys2Proof.Machine

namespace Sys2Proof.Machine

/-! ## Refused requests, and requests that only read -/

/-- A parameter's check refuses a request when it fails with this status, or when its value leads to a refusal with it (R132). -/
theorem checked_refuses {α : Type} {o : Option α} {st : Status} {s : State} {k : α → Reply}
    (h : ∀ a, o = some a → k a = refuse s st) : checked o st s k = refuse s st := by
  cases o with
  | none => rfl
  | some a => exact h a rfl

theorem checked_of_none {α : Type} {o : Option α} {st : Status} {s : State} {k : α → Reply} (h : o = none) :
    checked o st s k = refuse s st :=
  checked_refuses fun _ ha => nomatch h.symm.trans ha

theorem withFlow_refuses {r : Payload} {n : Nat} {s : State} {k : FlowNo → Reply}
    (h : ∀ f, flowOf (param2 r n) = some f → k f = refuse s .badIndex) : withFlow r n s k = refuse s .badIndex :=
  checked_refuses h

theorem withFlow_of_none {r : Payload} {n : Nat} {s : State} {k : FlowNo → Reply} (h : flowOf (param2 r n) = none) :
    withFlow r n s k = refuse s .badIndex :=
  checked_of_none h

theorem require_refuses {c : Bool} {st : Status} {s : State} {k : Reply} (h : c = true → k = refuse s st) :
    require c st s k = refuse s st := by
  cases c with
  | false => rfl
  | true => exact h rfl

theorem require_of_not {c : Bool} {st : Status} {s : State} {k : Reply} (h : ¬ c = true) : require c st s k = refuse s st :=
  if_neg h

/-- A refused request leaves only its response behind (R132). -/
theorem takeRequest_refuses {s : State} {code : Byte} {r : Payload} {rest : List Payload} {run : Payload → State → Reply}
    {st : Status} (h : Executes s code r rest) (hrun : run r (s.dequeue rest) = refuse (s.dequeue rest) st) :
    takeRequest code run s = .next { s with mgmt := s.mgmt.answered r rest st [] } :=
  takeRequest_executes h hrun

/-- A request that only reads leaves only its response behind. -/
theorem takeRequest_reads {s : State} {code : Byte} {r : Payload} {rest : List Payload} {run : Payload → State → Reply}
    {data : List Byte} (h : Executes s code r rest) (hrun : run r (s.dequeue rest) = okReply (s.dequeue rest) data) :
    takeRequest code run s = .next { s with mgmt := s.mgmt.answered r rest .ok data } :=
  takeRequest_executes h hrun

/-- A request other than SYNC with tag Q − 1 beside a valid cache is answered from the cache, and nothing is executed (R134). -/
theorem takeRequest_replays {s : State} {code : Byte} {r : Payload} {rest : List Payload} {x : Response}
    (run : Payload → State → Reply) (h : Takes s r rest) (hc : requestCode r = code) (hn : code ≠ 0x01)
    (ht : requestTag r ≠ s.mgmt.expected) (hd : requestTag r = s.mgmt.expected - 1) (hx : s.mgmt.cache = some x) :
    takeRequest code run s = .next { s with mgmt := s.mgmt.repeated rest x } :=
  congrArg _ (take_replays s _ run r rest x h.head h.room (decide_eq_true hc) (hc ▸ hn) ht hd hx)

/-! ### Numbers, options and fields -/

theorem within_of_mem {lo hi n : Nat} (hlo : lo ≤ n) (hhi : n ≤ hi) : within lo hi n = some n :=
  if_pos ⟨hlo, hhi⟩

theorem within_eq_some {lo hi n m : Nat} (h : within lo hi n = some m) : m = n ∧ lo ≤ n ∧ n ≤ hi := by
  unfold within at h
  split_ifs at h with hc
  cases h
  exact ⟨rfl, hc⟩

theorem within_of_not_mem {lo hi n : Nat} (h : n < lo ∨ hi < n) : within lo hi n = none :=
  if_neg fun ⟨hlo, hhi⟩ => by omega

/-- A two-way option beyond its range names nothing (R196). -/
theorem optionOf_of_gt {b : Byte} (h : 1 < b.toNat) : optionOf b = none := by
  have h0 : b ≠ 0 := by rintro rfl; exact absurd h (by decide)
  have h1 : b ≠ 1 := by rintro rfl; exact absurd h (by decide)
  rw [optionOf, if_neg h0, if_neg h1]

/-- A READ_FLOW view beyond its range names nothing (R196). -/
theorem viewOf_of_gt {b : Byte} (h : 2 < b.toNat) : viewOf b = none := by
  have h0 : b ≠ 0 := by rintro rfl; exact absurd h (by decide)
  have h1 : b ≠ 1 := by rintro rfl; exact absurd h (by decide)
  have h2 : b ≠ 2 := by rintro rfl; exact absurd h (by decide)
  rw [viewOf, if_neg h0, if_neg h1, if_neg h2]

/-- The two bytes of a two-byte field are the parameter bytes that it was read from (R192). -/
theorem bytes2_param2 (r : Payload) (n : Nat) : bytes2 (param2 r n) = [param r n, param r (n + 1)] :=
  congrArg₂ (fun a b : Byte => [a, b]) BitVec.extractLsb'_append_eq_left BitVec.extractLsb'_append_eq_right

theorem numBytes2_toNat (w : BitVec 16) : numBytes2 w.toNat = bytes2 w := by
  rw [numBytes2, BitVec.ofNat_toNat, BitVec.setWidth_eq]

/-! ## SYNC, READ_TIME and SET_TIMEBASE -/

/-- Settles O31: a SYNC is executed whatever its tag, and both requests only read. -/
theorem syncAndReadTimeAnswer : Obligations.SyncAndReadTimeAnswer := by
  refine ⟨fun s r rest h hc => ?_, fun s r rest h => takeRequest_reads h rfl, fun s r rest x h hc ht hd hx => ?_⟩
  · exact congrArg _ (take_executes s _ runSync r rest h.head h.room (decide_eq_true hc) (.inl hc))
  · exact takeRequest_replays runReadTime h hc (by decide) ht hd hx

theorem State.allUnused_iff (s : State) : s.allUnused = true ↔ ∀ f, (s.flow f).lifecycle = .unused := by
  simp only [State.allUnused, List.all_eq_true, Vector.mem_toList_iff, decide_eq_true_eq, State.flow, Vector.get_eq_getElem,
    Vector.forall_mem_iff_forall_getElem]
  exact ⟨fun h f => h f.val f.isLt, fun h i hi => h ⟨i, hi⟩⟩

/-- Settles O32: the range of N, then the flows, are checked before N is stored. -/
theorem setTimebaseStoresTheDivisor : Obligations.SetTimebaseStoresTheDivisor := by
  refine fun s r rest h => ⟨fun hn => ?_, fun hlo hhi hf => ?_, fun hlo hhi hf => ?_⟩
  · exact takeRequest_refuses h (checked_of_none (within_of_not_mem hn))
  · have hused : ¬ (s.dequeue rest).allUnused = true := fun hall =>
      hf.elim fun f hne => hne ((State.allUnused_iff _).mp hall f)
    refine takeRequest_refuses h ?_
    rw [runSetTimebase, checked_eq (within_of_mem hlo hhi), require_of_not hused]
  · have hunused : (s.dequeue rest).allUnused = true := (State.allUnused_iff _).mpr hf
    rw [← bytes2_param2 r 0, ← numBytes2_toNat]
    refine takeRequest_executes (u := s.withTime { s.time with divisor := (param2 r 0).toNat }) h ?_
    rw [runSetTimebase, checked_eq (within_of_mem hlo hhi), require_eq hunused]
    rfl

/-! ## OPEN_FLOW -/

/-- An OPEN_FLOW whose parameters are all in range comes, last, to the check that its flow is UNUSED (R145). -/
theorem runOpenFlow_eq {s : State} {r : Payload} {f : FlowNo} {ch : UserChannel} {p : Port} {q : Priority} {c : Contract}
    (hf : flowOf (param2 r 0) = some f) (hch : channelOf (param2 r 3) = some ch) (hp : portOf (param r 2) = some p)
    (hq : priorityOf (param r 5) = some q) (hlo : 1 ≤ (param r 6).toNat) (hhi : (param r 6).toNat ≤ 64)
    (hc : contractOf r 7 = some c) : runOpenFlow r s = require (decide ((s.flow f).lifecycle = .unused)) .state s
      (okReply ((s.setFlow f ((s.flow f).openWith s.now p ch q (param r 6).toNat c)).setFlowCounters f FlowCounters.zero)
        (bytes3 s.now)) := by
  rw [runOpenFlow, withFlow_eq hf, checked_eq hch, checked_eq hp, checked_eq hq, checked_eq (within_of_mem hlo hhi),
    checked_eq hc]

/-- Settles O33: the checks follow one another in R145's order, and the opening of an UNUSED flow does not look at the
Management Engine. -/
theorem openFlowChecksAndOpens : Obligations.OpenFlowChecksAndOpens := by
  refine ⟨fun s r rest f p ch q c h hf hch hp hq hlo hhi hc hu => ?_, fun s r rest h => ⟨fun hn => ?_, fun hf hch hbad => ?_,
    fun f hf hch hgood hu => ?_⟩⟩
  · exact takeRequest_executes (u := (s.setFlow f ((s.flow f).openWith s.now p ch q (param r 6).toNat c)).setFlowCounters f
      FlowCounters.zero) h ((runOpenFlow_eq hf hch hp hq hlo hhi hc).trans (require_eq (decide_eq_true hu)))
  · refine takeRequest_refuses h (withFlow_refuses fun f hf => checked_refuses fun ch hch => ?_)
    rcases hn with hn | hn
    · exact nomatch hn.symm.trans hf
    · exact nomatch hn.symm.trans hch
  · obtain ⟨f, hf⟩ := Option.ne_none_iff_exists'.mp hf
    obtain ⟨ch, hch⟩ := Option.ne_none_iff_exists'.mp hch
    refine takeRequest_refuses h ?_
    rw [runOpenFlow, withFlow_eq hf, checked_eq hch]
    refine checked_refuses fun p hp => checked_refuses fun q hq => checked_refuses fun lim hlim =>
      checked_refuses fun c hc => ?_
    obtain ⟨-, hlo, hhi⟩ := within_eq_some hlim
    rcases hbad with hbad | hbad | hbad | hbad | hbad
    · exact nomatch hbad.symm.trans hp
    · exact nomatch hbad.symm.trans hq
    · exact absurd hlo (Nat.not_le.mpr hbad)
    · exact absurd hhi (Nat.not_le.mpr hbad)
    · exact nomatch hbad.symm.trans hc
  · simp only [not_or, Nat.not_lt, ← ne_eq, Option.ne_none_iff_exists'] at hch hgood
    obtain ⟨ch, hch⟩ := hch
    obtain ⟨⟨p, hp⟩, ⟨q, hq⟩, hlo, hhi, c, hc⟩ := hgood
    exact takeRequest_refuses h
      ((runOpenFlow_eq hf hch hp hq hlo hhi hc).trans (require_of_not (mt of_decide_eq_true hu)))

end Sys2Proof.Machine

namespace Sys2Proof.Machine

/-! ## The refusals of the requests on one flow -/

theorem State.closeDrain_refuses {s : State} {f : FlowNo} (hl : (s.flow f).lifecycle ≠ .opened) :
    s.closeDrain f = refuse s .state := by
  unfold State.closeDrain
  cases h : (s.flow f).lifecycle with
  | opened => exact absurd h hl
  | unused => rfl
  | suspended => rfl
  | draining => rfl

theorem State.closeFlush_refuses {s : State} {f : FlowNo} (hl : (s.flow f).lifecycle = .unused) :
    s.closeFlush f = refuse s .state := by
  rw [State.closeFlush, hl]

section
variable {s : State} {r : Payload} {f : FlowNo} (hf : flowOf (param2 r 0) = some f)
include hf

theorem runSetContract_refuses_state (hl : ¬ (s.flow f).lifecycle.live = true) : runSetContract r s = refuse s .state := by
  rw [runSetContract, withFlow_eq hf, require_of_not hl]

theorem runSetContract_refuses_value (hl : (s.flow f).lifecycle.live = true) (hc : contractOf r 2 = none) :
    runSetContract r s = refuse s .badValue := by
  rw [runSetContract, withFlow_eq hf, require_eq hl, checked_of_none hc]

theorem runCommitContract_refuses (h : ¬ (s.flow f).lifecycle.live = true ∨ (s.flow f).pending = none) :
    runCommitContract r s = refuse s .state := by
  rw [runCommitContract, withFlow_eq hf]
  refine require_refuses fun hl => require_refuses fun hp => ?_
  rcases h with h | h
  · exact absurd hl h
  · rw [h] at hp
    exact nomatch hp

theorem runSuspendFlow_refuses (hl : (s.flow f).lifecycle ≠ .opened) : runSuspendFlow r s = refuse s .state := by
  rw [runSuspendFlow, withFlow_eq hf, require_of_not (mt of_decide_eq_true hl)]

theorem runResumeFlow_refuses_value (ho : 1 < (param r 2).toNat) : runResumeFlow r s = refuse s .badValue := by
  rw [runResumeFlow, withFlow_eq hf, checked_of_none (optionOf_of_gt ho)]

theorem runResumeFlow_refuses_state (ho : (param r 2).toNat ≤ 1) (hl : (s.flow f).lifecycle ≠ .suspended) :
    runResumeFlow r s = refuse s .state := by
  rw [runResumeFlow, withFlow_eq hf, checked_eq (optionOf_of_le ho), require_of_not (mt of_decide_eq_true hl)]

theorem runCloseFlow_refuses_value (ho : 1 < (param r 2).toNat) : runCloseFlow r s = refuse s .badValue := by
  rw [runCloseFlow, withFlow_eq hf, checked_of_none (optionOf_of_gt ho)]

theorem runCloseFlow_refuses_mapped (ho : (param r 2).toNat ≤ 1) (hm : 0 < s.refCount f) :
    runCloseFlow r s = refuse s .mapped := by
  rw [runCloseFlow_eq hf (optionOf_of_le ho), if_neg hm.ne']

theorem runCloseFlow_refuses_drain (ho : (param r 2).toNat = 0) (hz : s.refCount f = 0)
    (hl : (s.flow f).lifecycle ≠ .opened) : runCloseFlow r s = refuse s .state := by
  have hb : param r 2 = 0 := BitVec.eq_of_toNat_eq ho
  have hopt : optionOf (param r 2) = some false := by rw [hb]; rfl
  rw [runCloseFlow_eq hf hopt, if_pos hz]
  exact State.closeDrain_refuses hl

theorem runCloseFlow_refuses_flush (ho : (param r 2).toNat = 1) (hz : s.refCount f = 0)
    (hl : (s.flow f).lifecycle = .unused) : runCloseFlow r s = refuse s .state := by
  have hb : param r 2 = 1 := BitVec.eq_of_toNat_eq ho
  have hopt : optionOf (param r 2) = some true := by rw [hb]; rfl
  rw [runCloseFlow_eq hf hopt, if_pos hz]
  exact State.closeFlush_refuses hl

theorem runReadFlow_refuses (hv : 2 < (param r 2).toNat) : runReadFlow r s = refuse s .badValue := by
  rw [runReadFlow, withFlow_eq hf, checked_of_none (viewOf_of_gt hv)]

end

/-- A START_PROBE of 1..8 arrivals comes, after the check of its count, to those of its flow and of the probe (R160). -/
theorem runStartProbe_eq {s : State} {r : Payload} (hlo : 1 ≤ (param r 2).toNat) (hhi : (param r 2).toNat ≤ 8) :
    runStartProbe r s = withFlow r 0 s fun f =>
      require (s.probe.state ≠ .armed) .busy s
      (require (s.flow f).lifecycle.live .state s
      (acceptReply (s.armProbe f (param r 2).toNat) (byteOf f.val :: byteOf (param r 2).toNat :: bytes3 s.now))) := by
  rw [runStartProbe, checked_eq (within_of_mem (Nat.zero_le _) hhi)]
  exact if_neg (Nat.ne_of_gt hlo)

theorem runStartProbe_refuses_state {s : State} {r : Payload} {f : FlowNo} (hf : flowOf (param2 r 0) = some f)
    (hlo : 1 ≤ (param r 2).toNat) (hhi : (param r 2).toNat ≤ 8) (ha : s.probe.state ≠ .armed)
    (hl : ¬ (s.flow f).lifecycle.live = true) : runStartProbe r s = refuse s .state := by
  rw [runStartProbe_eq hlo hhi, withFlow_eq hf, require_eq (decide_eq_true ha), require_of_not hl]

/-- Settles O35: the checks of each request, in their order, end in the refusal of the first that fails. -/
theorem flowRequestsAreRefusedInOrder : Obligations.FlowRequestsAreRefusedInOrder := by
  intro s r rest refused
  refine ⟨fun hf => ?_, fun f hf => ?_⟩
  · exact ⟨fun h => takeRequest_refuses h (withFlow_of_none hf), fun h => takeRequest_refuses h (withFlow_of_none hf),
      fun h => takeRequest_refuses h (withFlow_of_none hf), fun h => takeRequest_refuses h (withFlow_of_none hf),
      fun h => takeRequest_refuses h (withFlow_of_none hf), fun h => takeRequest_refuses h (withFlow_of_none hf)⟩
  · intro live option
    have hlive : ((s.dequeue rest).flow f).lifecycle.live = true ↔ live := Lifecycle.live_iff _
    exact ⟨fun h hl => takeRequest_refuses h (runSetContract_refuses_state hf (mt hlive.mp hl)),
      fun h hl hc => takeRequest_refuses h (runSetContract_refuses_value hf (hlive.mpr hl) hc),
      fun h hl => takeRequest_refuses h (runCommitContract_refuses hf (hl.imp_left (mt hlive.mp))),
      fun h hl => takeRequest_refuses h (runSuspendFlow_refuses hf hl),
      fun h ho => takeRequest_refuses h (runResumeFlow_refuses_value hf ho),
      fun h ho hl => takeRequest_refuses h (runResumeFlow_refuses_state hf ho hl),
      fun h ho => takeRequest_refuses h (runCloseFlow_refuses_value hf ho),
      fun h ho hm => takeRequest_refuses h (runCloseFlow_refuses_mapped hf ho hm),
      fun h ho hz hl => takeRequest_refuses h (runCloseFlow_refuses_drain hf ho hz hl),
      fun h ho hz hl => takeRequest_refuses h (runCloseFlow_refuses_flush hf ho hz hl),
      fun h hv => takeRequest_refuses h (runReadFlow_refuses hf hv),
      fun h hlo hhi ha hl => takeRequest_refuses h (runStartProbe_refuses_state hf hlo hhi ha (mt hlive.mp hl))⟩

/-! ## READ_FLOW -/

/-- The bytes of response data that are not given are 0, so zeros at the end may be given or not (R125). -/
theorem dataOf_append_zeros (l : List Byte) (n : Nat) : dataOf (l ++ List.replicate n 0) = dataOf l := by
  refine congrArg Vector.ofFn (funext fun i => ?_)
  rcases Nat.lt_or_ge i.val l.length with hi | hi
  · exact List.getD_append l _ 0 i.val hi
  · rw [List.getD_append_right l _ 0 i.val hi, List.getD_eq_getElem?_getD,
      List.getElem?_getD_replicate_default_eq, List.getD_eq_default l 0 hi]

/-- READ_FLOW with a view in range returns it (R151, R152). -/
theorem runReadFlow_eq {s : State} {r : Payload} {f : FlowNo} {v : FlowView} (hf : flowOf (param2 r 0) = some f)
    (hv : viewOf (param r 2) = some v) : runReadFlow r s = okReply s (s.viewData f v) := by
  rw [runReadFlow, withFlow_eq hf, checked_eq hv]

theorem FlowRecord.pendingData_of_none {r : FlowRecord} (h : r.pending = none) : r.pendingData = [0] := by
  rw [FlowRecord.pendingData, h]

theorem FlowRecord.pendingData_of_some {r : FlowRecord} {c : Contract} (h : r.pending = some c) :
    r.pendingData = 1 :: c.bytes := by
  rw [FlowRecord.pendingData, h]

/-- The indication of a pending contract in the STATUS view (R193). -/
theorem FlowRecord.pending_code (r : FlowRecord) : byteOf r.pending.isSome.toNat = if r.pending = none then 0 else 1 := by
  cases r.pending with
  | none => rfl
  | some c => rfl

/-- Settles O39: each view is read from the flow's record, its reference count or its counters. -/
theorem readFlowReturnsTheView : Obligations.ReadFlowReturnsTheView := by
  intro s r rest f h hf x k contract
  have view (v : FlowView) (hv : viewOf (param r 2) = some v) :
      exec .readFlow s = .next { s with mgmt := s.mgmt.answered r rest .ok (s.viewData f v) } :=
    takeRequest_reads h (runReadFlow_eq hf hv)
  refine ⟨fun hp => ?_, fun hp hn => ?_, fun c hp hc => ?_, fun hp => ?_⟩
  · refine (view .status (by rw [hp]; rfl)).trans ?_
    rw [← x.pending_code]
    rfl
  · refine (view .pending (by rw [hp]; rfl)).trans ?_
    rw [State.viewData, FlowRecord.pendingData_of_none hn, Management.answered, responseTo, ← dataOf_append_zeros [0] 7]
    rfl
  · refine (view .pending (by rw [hp]; rfl)).trans ?_
    rw [State.viewData, FlowRecord.pendingData_of_some hc]
    rfl
  · exact view .counters (by rw [hp]; rfl)

end Sys2Proof.Machine

namespace Sys2Proof.Machine

/-! ## What is written into the Staging bank -/

theorem ChannelMap.setStaging_active (m : ChannelMap) (b : Bank) : (m.setStaging b).active = m.active := by
  obtain ⟨bankA, bankB, active, generation, refCounts⟩ := m
  cases active <;> rfl

theorem ChannelMap.setStaging_generation (m : ChannelMap) (b : Bank) : (m.setStaging b).generation = m.generation := by
  obtain ⟨bankA, bankB, active, generation, refCounts⟩ := m
  cases active <;> rfl

theorem ChannelMap.setStaging_stagingBank (m : ChannelMap) (b : Bank) : (m.setStaging b).stagingBank = b := by
  obtain ⟨bankA, bankB, active, generation, refCounts⟩ := m
  cases active <;> rfl

/-- Settles O40: Staging is replaced as a whole, by the Active bank or by the bank with every entry NONE. -/
theorem prepareMapSetsTheStagingBank : Obligations.PrepareMapSetsTheStagingBank := by
  refine fun s r rest h => ⟨fun ho => ?_, fun ho => ?_⟩
  · exact takeRequest_refuses h (checked_of_none (optionOf_of_gt ho))
  · refine ⟨_, takeRequest_executes (u := s.withMap (s.map.setStaging
      (if decide (param r 0 ≠ 0) then Bank.none else s.map.activeBank))) h (checked_eq (optionOf_of_le ho)), rfl,
      ChannelMap.setStaging_active _ _, ChannelMap.setStaging_generation _ _, ChannelMap.setStaging_refCounts _ _,
      ChannelMap.setStaging_activeBank _ _, fun p c => ?_, rfl⟩
    dsimp only [State.withMap]
    rw [ChannelMap.setStaging_stagingBank]
    by_cases hz : param r 0 = 0
    · rw [if_pos hz, decide_eq_false (not_not.mpr hz)]
      rfl
    · rw [if_neg hz, decide_eq_true hz]
      exact Bank.none_entry p c

/-! ## WRITE_MAP -/

/-- One value more is read after those before it (R154). -/
theorem mapValues_succ (r : Payload) (n : Nat) : mapValues r (n + 1) =
    (mapValues r n).bind fun l => (mapValueOf (param2 r (4 + 2 * n))).map fun v => l ++ [v] := by
  rw [mapValues]
  cases mapValues r n with
  | none => rfl
  | some l => cases mapValueOf (param2 r (4 + 2 * n)) <;> rfl

/-- The values of a WRITE_MAP, when each names something, are those that were read, in order (R154). -/
theorem getElem?_of_mapValues {r : Payload} {n : Nat} {vs : List (Option FlowNo)} (h : mapValues r n = some vs) :
    vs.length = n ∧ ∀ i, i < n → vs[i]? = mapValueOf (param2 r (4 + 2 * i)) := by
  induction n generalizing vs with
  | zero =>
    obtain rfl := Option.some.inj h
    exact ⟨rfl, fun i hi => absurd hi (Nat.not_lt_zero i)⟩
  | succ n ih =>
    rw [mapValues_succ] at h
    obtain ⟨l, hl, h⟩ := Option.bind_eq_some_iff.mp h
    obtain ⟨v, hv, rfl⟩ := Option.map_eq_some_iff.mp h
    obtain ⟨hlen, hvalues⟩ := ih hl
    refine ⟨by simp [hlen], fun i hi => ?_⟩
    rcases Nat.lt_succ_iff_lt_or_eq.mp hi with hi | rfl
    · rw [List.getElem?_append_left (hlen.symm ▸ hi), hvalues i hi]
    · rw [← hlen, List.getElem?_concat_length, hlen, hv]

/-- A value that names nothing is one of those that were read (R154). -/
theorem exists_of_mapValues_eq_none {r : Payload} {n : Nat} (h : mapValues r n = none) :
    ∃ i, i < n ∧ mapValueOf (param2 r (4 + 2 * i)) = none := by
  induction n with
  | zero => exact nomatch h
  | succ n ih =>
    rw [mapValues_succ] at h
    cases hl : mapValues r n with
    | none => exact (ih hl).imp fun i ⟨hi, hv⟩ => ⟨Nat.lt_succ_of_lt hi, hv⟩
    | some l =>
      rw [hl] at h
      exact ⟨n, Nat.lt_succ_self n, Option.map_eq_none_iff.mp h⟩

theorem Bank.entries_setEntries (b : Bank) (p p' : Port) (v : Vector (Option FlowNo) 1023) :
    (b.setEntries p v).entries p' = if p' = p then v else b.entries p' := by
  cases p <;> cases p' <;> rfl

/-- A run goes into the entries of its port from its first channel on, and into no other (R56). -/
theorem Bank.writeRun_entry (b : Bank) (p p' : Port) (first : Nat) (vs : List (Option FlowNo)) (c : UserChannel) :
    some ((b.writeRun p first vs).entry p' c) =
      if p' = p ∧ first ≤ c.val ∧ c.val < first + vs.length then vs[c.val - first]? else some (b.entry p' c) := by
  unfold Bank.entry Bank.writeRun
  rw [Bank.entries_setEntries]
  by_cases hp : p' = p
  · subst hp
    rw [if_pos rfl, Vector.get_eq_getElem, Vector.getElem_ofFn]
    by_cases hfirst : first ≤ c.val
    · rw [if_pos hfirst]
      by_cases hlast : c.val < first + vs.length
      · have hi : c.val - first < vs.length := by omega
        rw [if_pos ⟨rfl, hfirst, hlast⟩, List.getElem?_eq_getElem hi]
        rfl
      · have hi : vs.length ≤ c.val - first := by omega
        rw [if_neg fun ⟨_, _, hlow⟩ => hlast hlow, List.getElem?_eq_none hi]
        rfl
    · rw [if_neg hfirst, if_neg fun ⟨_, hhigh, _⟩ => hfirst hhigh]
  · rw [if_neg hp, if_neg fun ⟨hport, _⟩ => hp hport]

/-- A run of at least one entry that ends at channel 1022 or before begins at a channel (R154, R155). -/
theorem channelOf_of_run {w : BitVec 16} {n : Nat} (hn : 1 ≤ n) (h : w.toNat + n - 1 ≤ 1022) :
    ∃ hw : w.toNat < 1023, channelOf w = some ⟨w.toNat, hw⟩ := by
  have hw : w.toNat < 1023 := by omega
  exact ⟨hw, dif_pos hw⟩

theorem channelOf_eq_some {w : BitVec 16} {c : UserChannel} (h : channelOf w = some c) : c.val = w.toNat := by
  unfold channelOf at h
  split_ifs at h
  cases h
  rfl

/-- A run that ends beyond channel 1022 is BAD_INDEX, whether or not it begins at a channel (R154, R155). -/
theorem channelRun_refuses {w : BitVec 16} {n : Nat} {s : State} {k : UserChannel → Reply} (h : 1022 < w.toNat + n - 1) :
    (checked (channelOf w) .badIndex s fun ch => require (ch.val + n - 1 ≤ 1022) .badIndex s (k ch)) = refuse s .badIndex := by
  refine checked_refuses fun ch hch => require_of_not (mt of_decide_eq_true ?_)
  rw [channelOf_eq_some hch]
  exact Nat.not_le.mpr h

/-- A WRITE_MAP whose port and count are in range comes to the check of its run (R154). -/
theorem runWriteMap_eq {s : State} {r : Payload} {p : Port} (hp : portOf (param r 0) = some p) (hlo : 1 ≤ (param r 3).toNat)
    (hhi : (param r 3).toNat ≤ 11) : runWriteMap r s =
      checked (channelOf (param2 r 1)) .badIndex s fun ch =>
      require (ch.val + (param r 3).toNat - 1 ≤ 1022) .badIndex s
      (checked (mapValues r (param r 3).toNat) .badValue s fun vs =>
       okReply (s.withMap (s.map.setStaging (s.map.stagingBank.writeRun p ch.val vs))) [byteOf s.map.staging.code]) := by
  rw [runWriteMap, checked_eq hp, checked_eq (within_of_mem hlo hhi)]

/-- A WRITE_MAP whose run is in range comes, last, to the check of its values (R154). -/
theorem runWriteMap_eq_of_run {s : State} {r : Payload} {p : Port} (hp : portOf (param r 0) = some p)
    (hlo : 1 ≤ (param r 3).toNat) (hhi : (param r 3).toNat ≤ 11)
    (hrun : (param2 r 1).toNat + (param r 3).toNat - 1 ≤ 1022) : runWriteMap r s =
      checked (mapValues r (param r 3).toNat) .badValue s fun vs =>
      okReply (s.withMap (s.map.setStaging (s.map.stagingBank.writeRun p (param2 r 1).toNat vs)))
        [byteOf s.map.staging.code] := by
  obtain ⟨hw, hch⟩ := channelOf_of_run hlo hrun
  rw [runWriteMap_eq hp hlo hhi, checked_eq hch, require_eq (decide_eq_true hrun)]

/-- Settles O41: the checks in R154's order, and the run that is written when all pass. -/
theorem writeMapWritesTheRun : Obligations.WriteMapWritesTheRun := by
  intro s r rest h n first value refused
  refine ⟨fun hbad => ?_, fun hp hlo hhi hrun => ?_, fun hp hlo hhi hrun hv => ?_, fun p hp hlo hhi hrun hv => ?_⟩
  · refine takeRequest_refuses h (checked_refuses fun p hp => checked_refuses fun m hm => ?_)
    obtain ⟨-, hlo, hhi⟩ := within_eq_some hm
    rcases hbad with hbad | hbad | hbad
    · exact nomatch hbad.symm.trans hp
    · exact absurd hlo (Nat.not_le.mpr hbad)
    · exact absurd hhi (Nat.not_le.mpr hbad)
  · obtain ⟨p, hp⟩ := Option.ne_none_iff_exists'.mp hp
    exact takeRequest_refuses h ((runWriteMap_eq hp hlo hhi).trans (channelRun_refuses hrun))
  · obtain ⟨p, hp⟩ := Option.ne_none_iff_exists'.mp hp
    obtain ⟨i, hi, hv⟩ := hv
    refine takeRequest_refuses h ((runWriteMap_eq_of_run hp hlo hhi hrun).trans ?_)
    refine checked_refuses fun vs hvs => ?_
    obtain ⟨hlen, hvalues⟩ := getElem?_of_mapValues hvs
    have hsome := (hvalues i hi).trans hv
    rw [List.getElem?_eq_none_iff] at hsome
    omega
  · obtain ⟨vs, hvs⟩ : ∃ vs, mapValues r n = some vs := by
      refine Option.ne_none_iff_exists'.mp fun hnone => ?_
      obtain ⟨i, hi, hnone⟩ := exists_of_mapValues_eq_none hnone
      exact hv i hi hnone
    obtain ⟨hlen, hvalues⟩ := getElem?_of_mapValues hvs
    refine ⟨_, takeRequest_executes (u := s.withMap (s.map.setStaging (s.map.stagingBank.writeRun p first vs))) h
      ((runWriteMap_eq_of_run hp hlo hhi hrun).trans (checked_eq hvs)), rfl, ChannelMap.setStaging_active _ _,
      ChannelMap.setStaging_generation _ _, ChannelMap.setStaging_refCounts _ _, ChannelMap.setStaging_activeBank _ _,
      fun p' c => ?_, rfl⟩
    dsimp only [State.withMap]
    rw [ChannelMap.setStaging_stagingBank, Bank.writeRun_entry, hlen]
    split_ifs with hc
    · obtain ⟨-, hlow, hhigh⟩ := hc
      exact hvalues (c.val - first) (by omega)
    · rfl

/-! ## READ_MAP -/

theorem Bank.readRun_length (b : Bank) (p : Port) {first n : Nat} (h : first + n ≤ 1023) :
    (b.readRun p first n).length = n := by
  rw [Bank.readRun, List.length_take, List.length_drop, Vector.length_toList]
  omega

/-- Entry i of a run is that of its first channel + i (R58). -/
theorem Bank.readRun_entry (b : Bank) (p : Port) {first n i : Nat} {c : UserChannel} (hi : i < n) (hc : c.val = first + i) :
    (b.readRun p first n)[i]? = some (b.entry p c) := by
  rw [Bank.readRun, List.getElem?_take_of_lt hi, List.getElem?_drop, ← hc, Bank.entry, Vector.get_eq_getElem]
  simp

/-- The bits above bit 0 of the mask of some entries are the mask of the entries after the first (R195). -/
theorem noneMask_cons_div_two (e : Option FlowNo) (l : List (Option FlowNo)) : noneMask (e :: l) / 2 = noneMask l := by
  cases e <;> simp only [noneMask] <;> omega

/-- Bit i of the NONE mask is set exactly when entry i is held and NONE (R195). -/
theorem noneMask_testBit (l : List (Option FlowNo)) (i : Nat) : (noneMask l).testBit i = decide (l[i]? = some none) := by
  induction l generalizing i with
  | nil => simp [noneMask]
  | cons e l ih =>
    cases i with
    | zero => cases e <;> simp [noneMask]
    | succ i => rw [Nat.testBit_succ, noneMask_cons_div_two, ih, List.getElem?_cons_succ]

/-- The byte that READ_MAP returns for an entry: its flow number, or 0 beside a mask bit of 1 (R195). -/
theorem entryBytes_getElem? {l : List (Option FlowNo)} {i : Nat} {e : Option FlowNo} (h : l[i]? = some e) :
    (entryBytes l)[i]? = some (e.elim 0 fun f => byteOf f.val) := by
  rw [entryBytes, List.getElem?_map, h]
  cases e <;> rfl

/-- READ_MAP's option names the bank by its role: 0 is the Active one, anything else in range Staging (R58, R193). -/
theorem ChannelMap.byRole_eq (m : ChannelMap) (b : Byte) :
    m.byRole (decide (b ≠ 0)) = if b = 0 then m.active else otherBank m.active := by
  by_cases hz : b = 0
  · rw [if_pos hz, decide_eq_false (not_not.mpr hz)]
    rfl
  · rw [if_neg hz, decide_eq_true hz]
    rfl

/-- A READ_MAP whose bank, port and count are in range comes to the check of its run (R155). -/
theorem runReadMap_eq {s : State} {r : Payload} {p : Port} (ho : (param r 0).toNat ≤ 1) (hp : portOf (param r 1) = some p)
    (hlo : 1 ≤ (param r 4).toNat) (hhi : (param r 4).toNat ≤ 12) : runReadMap r s =
      checked (channelOf (param2 r 2)) .badIndex s fun ch =>
      require (ch.val + (param r 4).toNat - 1 ≤ 1022) .badIndex s
      (let i := if param r 0 = 0 then s.map.active else otherBank s.map.active
       let es := (s.map.bank i).readRun p ch.val (param r 4).toNat
       okReply s (byteOf i.code :: bytes2 s.map.generation ++ numBytes2 (noneMask es) ++ entryBytes es)) := by
  rw [runReadMap, checked_eq (optionOf_of_le ho), checked_eq hp, checked_eq (within_of_mem hlo hhi), ChannelMap.byRole_eq]

/-- Settles O42: the checks in R155's order, and the entries of the run that is read when all pass. -/
theorem readMapReturnsTheRun : Obligations.ReadMapReturnsTheRun := by
  intro s r rest h n first refused
  refine ⟨fun hbad => ?_, fun ho hp hlo hhi hrun => ?_, fun p ho hp hlo hhi hrun => ?_⟩
  · refine takeRequest_refuses h (checked_refuses fun role hrole => checked_refuses fun p hp => checked_refuses fun m hm => ?_)
    obtain ⟨-, hlo, hhi⟩ := within_eq_some hm
    rcases hbad with hbad | hbad | hbad | hbad
    · exact nomatch (optionOf_of_gt hbad).symm.trans hrole
    · exact nomatch hbad.symm.trans hp
    · exact absurd hlo (Nat.not_le.mpr hbad)
    · exact absurd hhi (Nat.not_le.mpr hbad)
  · obtain ⟨p, hp⟩ := Option.ne_none_iff_exists'.mp hp
    exact takeRequest_refuses h ((runReadMap_eq ho hp hlo hhi).trans (channelRun_refuses hrun))
  · obtain ⟨hw, hch⟩ := channelOf_of_run hlo hrun
    let bank := s.map.bank (if param r 0 = 0 then s.map.active else otherBank s.map.active)
    let es := bank.readRun p first n
    have hlen : es.length = n := bank.readRun_length p (by omega)
    refine ⟨BitVec.ofNat 16 (noneMask es), entryBytes es, takeRequest_reads h ?_, (List.length_map _).trans hlen,
      fun i c hi hc => ⟨?_, fun hn => ?_⟩⟩
    · exact (runReadMap_eq ho hp hlo hhi).trans ((checked_eq hch).trans (require_eq (decide_eq_true hrun)))
    · rw [BitVec.getLsbD_ofNat, decide_eq_true hi, Bool.true_and, noneMask_testBit]
      by_cases hn : i < n
      · rw [bank.readRun_entry p hn (hc hn), decide_eq_true hn, Bool.true_and]
        exact decide_eq_decide.mpr Option.some_inj
      · rw [List.getElem?_eq_none (hlen.trans_le (Nat.not_lt.mp hn)), decide_eq_false hn]
        rfl
    · refine (entryBytes_getElem? (bank.readRun_entry p hn (hc hn))).trans (congrArg some ?_)
      cases bank.entry p c <;> rfl

end Sys2Proof.Machine

namespace Sys2Proof.Machine

/-! ## SWAP_MAP -/

/-- An entry passes the check of a swap when it is NONE or names an OPEN or SUSPENDED flow that egresses on the other port
(R59). -/
theorem State.entryFault_eq_none_iff (s : State) (p : Port) (e : Option FlowNo) : s.entryFault p e = none ↔
    ∀ f, e = some f →
      ((s.flow f).lifecycle = .opened ∨ (s.flow f).lifecycle = .suspended) ∧ (s.flow f).egressPort = otherPort p := by
  cases e with
  | none => simp [State.entryFault]
  | some f =>
    rw [State.entryFault, FlowRecord.swapFault_eq_none_iff, Lifecycle.live_iff]
    exact ⟨fun h g hg => Option.some.inj hg ▸ h, fun h => h f rfl⟩

/-- What is wrong with an entry that fails, by the lifecycle state of its flow (R60, R193). -/
theorem FlowRecord.swapFault_code {r : FlowRecord} {p : Port} {why : SwapReason} (h : r.swapFault p = some why) :
    byteOf why.code = if r.lifecycle = .unused then 1 else if r.lifecycle = .draining then 2 else 3 := by
  unfold FlowRecord.swapFault at h
  cases hl : r.lifecycle <;> rw [hl] at h
  case unused => cases h; rfl
  case draining => cases h; rfl
  all_goals
    dsimp only at h
    split_ifs at h
    cases h
    rfl

/-- What the check of a port goes through, one by one, are its entries with their channels (R59). -/
theorem Bank.getElem_zipIdx_entries (b : Bank) (p : Port) {i : Nat} (hi : i < (b.entries p).toList.zipIdx.length) :
    ∃ c : UserChannel, c.val = i ∧ (b.entries p).toList.zipIdx[i] = (b.entry p c, c.val) := by
  have hlt : i < 1023 := by simpa using hi
  refine ⟨⟨i, hlt⟩, rfl, ?_⟩
  rw [List.getElem_zipIdx, Bank.entry, Vector.get_eq_getElem]
  simp

/-- A port without a failing entry has no fault (R59). -/
theorem State.portFault_eq_none {s : State} {b : Bank} {p : Port} (h : ∀ c, s.entryFault p (b.entry p c) = none) :
    s.portFault b p = none := by
  refine List.findSome?_eq_none_iff.mpr fun x hx => ?_
  obtain ⟨i, hi, rfl⟩ := List.getElem_of_mem hx
  obtain ⟨c, -, hx⟩ := b.getElem_zipIdx_entries p hi
  rw [hx, h]
  rfl

/-- The fault of a port is that of its first failing entry (R59). -/
theorem State.portFault_eq_some {s : State} {b : Bank} {p : Port} {c : UserChannel} {why : SwapReason}
    (hc : s.entryFault p (b.entry p c) = some why) (hd : ∀ d, d < c → s.entryFault p (b.entry p d) = none) :
    s.portFault b p = some (p, c.val, why) := by
  have hlt : c.val < (b.entries p).toList.zipIdx.length := by simp
  refine List.findSome?_eq_some_iff.mpr ⟨(b.entries p).toList.zipIdx.take c.val, _, _,
    (List.take_append_drop c.val _).symm.trans (congrArg _ (List.drop_eq_getElem_cons hlt)), ?_, fun x hx => ?_⟩
  · obtain ⟨c', hval, hx⟩ := b.getElem_zipIdx_entries p hlt
    obtain rfl := Fin.ext hval
    rw [hx, hc]
    rfl
  · obtain ⟨i, hi, rfl⟩ := List.mem_take_iff_getElem.mp hx
    obtain ⟨hic, hi⟩ := Nat.lt_min.mp hi
    obtain ⟨d, rfl, hx⟩ := b.getElem_zipIdx_entries p hi
    rw [hx, hd d hic]
    rfl

/-- A swap whose check finds no failing entry exchanges the banks (R61). -/
theorem runSwapMap_of_passing {s : State} (r : Payload) (h : s.bankFault s.map.stagingBank = none) :
    runSwapMap r s = okReply (s.withMap s.map.swap) (bytes2 s.map.swap.generation) := by
  rw [runSwapMap, h]

/-- A swap whose check finds a failing entry names it and changes nothing (R60). -/
theorem runSwapMap_of_failing {s : State} (r : Payload) {x : Port × Nat × SwapReason}
    (h : s.bankFault s.map.stagingBank = some x) :
    runSwapMap r s = { state := s, status := .mapInvalid, data := faultData x } := by
  rw [runSwapMap, h]

/-- Settles O43: the check goes through port T and then port F, entry by entry, and its outcome decides the swap. -/
theorem swapMapChecksThenExchanges : Obligations.SwapMapChecksThenExchanges := by
  intro s r rest h passes
  have passing (p : Port) (c : UserChannel) (hp : passes p c) :
      (s.dequeue rest).entryFault p (s.map.stagingBank.entry p c) = none :=
    (State.entryFault_eq_none_iff (s.dequeue rest) p _).mpr hp
  refine ⟨fun hall => ?_, fun p c f hf hfail hbefore hT => ?_⟩
  · have hnone : (s.dequeue rest).bankFault s.map.stagingBank = none :=
      Option.or_eq_none_iff.mpr ⟨State.portFault_eq_none fun c => passing .T c (hall .T c),
        State.portFault_eq_none fun c => passing .F c (hall .F c)⟩
    exact takeRequest_executes (u := s.withMap s.map.swap) h (runSwapMap_of_passing r hnone)
  · obtain ⟨why, hwhy⟩ : ∃ why, (s.dequeue rest).entryFault p (s.map.stagingBank.entry p c) = some why :=
      Option.ne_none_iff_exists'.mp (mt (State.entryFault_eq_none_iff (s.dequeue rest) p _).mp hfail)
    have hport := State.portFault_eq_some hwhy fun d hd => passing p d (hbefore d hd)
    have hbank : (s.dequeue rest).bankFault s.map.stagingBank = some (p, c.val, why) := by
      cases p with
      | T => rw [State.bankFault, hport, Option.some_or]
      | F => rw [State.bankFault, State.portFault_eq_none fun d => passing .T d (hT rfl d), hport, Option.none_or]
    rw [hf] at hwhy
    rw [← FlowRecord.swapFault_code (r := s.flow f) hwhy]
    exact takeRequest_executes h (runSwapMap_of_failing r hbank)

end Sys2Proof.Machine

namespace Sys2Proof.Machine

/-! ## SET_WATERMARKS -/

/-- Which levels are to be raised does not depend on which are (R84). -/
theorem CellBuffer.shouldRaise_setRaised (b : CellBuffer) (l k : Level) (r : Bool) :
    (b.setRaised l r).shouldRaise k = b.shouldRaise k := by
  cases l <;> cases k <;> rfl

/-- The re-evaluation raises exactly the levels whose threshold O has reached, and reports first those that rise, level 1 first,
and then those that clear, level 3 first (R84). -/
theorem State.reviseLevels_does (s : State) :
    s.reviseLevels = { s with
      buffer := s.buffer.withRaised s.buffer.shouldRaise
      notices := s.notices.postAll s.time.now
        (risePostings (fun l => !(s.buffer.level l).raised && s.buffer.shouldRaise l)
          ++ fallPostings (fun l => (s.buffer.level l).raised && !s.buffer.shouldRaise l)) } := by
  have hdown (a b : Bool) : ((a || b) && !b) = (a && !b) := by cases a <;> cases b <;> rfl
  have hnotices : s.reviseLevels.notices = s.notices.postAll s.time.now
      (risePostings (fun l => !(s.buffer.level l).raised && s.buffer.shouldRaise l)
        ++ fallPostings (fun l => (s.buffer.level l).raised && !s.buffer.shouldRaise l)) := by
    simp only [State.reviseLevels, State.reviseUp_does, State.reviseDown_does, CellBuffer.shouldRaise_setRaised,
      CellBuffer.level_setRaised, reduceCtorEq, if_true, if_false, hdown, NoticeUnit.postAll_append, risePostings_eq,
      fallPostings_eq]
  apply State.eq_of_fields <;> simp [hnotices, State.reviseLevels_buffer]

/-- The settings of a SET_WATERMARKS whose actions name something are those that it gives (R157). -/
theorem waterSettingsOf_eq {r : Payload} {a1 a2 a3 : ShedAction} (h1 : actionOf (param r 7) (param r 8) = some a1)
    (h2 : actionOf (param r 9) (param r 10) = some a2) (h3 : actionOf (param r 11) (param r 12) = some a3) :
    waterSettingsOf r = some
      { w1 := (param2 r 0).toNat, w2 := (param2 r 2).toNat, w3 := (param2 r 4).toNat, h := (param r 6).toNat,
        a1 := a1, a2 := a2, a3 := a3 } := by
  rw [waterSettingsOf, h1, h2, h3]

/-- What a SET_WATERMARKS gives comes from three actions that each name something (R157). -/
theorem exists_of_waterSettingsOf {r : Payload} {w : WaterSettings} (h : waterSettingsOf r = some w) : ∃ a1 a2 a3,
    actionOf (param r 7) (param r 8) = some a1 ∧ actionOf (param r 9) (param r 10) = some a2 ∧
      actionOf (param r 11) (param r 12) = some a3 := by
  unfold waterSettingsOf at h
  split at h
  next a1 a2 a3 h1 h2 h3 => exact ⟨a1, a2, a3, h1, h2, h3⟩
  next => exact nomatch h

/-- A threshold above H is above 0, so the lower end of its range needs no check of its own (R157). -/
theorem WaterSettings.legal_iff_ordered (w : WaterSettings) :
    w.legal = true ↔ w.h < w.w1 ∧ w.w1 < w.w2 ∧ w.w2 < w.w3 ∧ w.w3 ≤ 1024 := by
  rw [WaterSettings.legal_iff]
  omega

theorem runSetWatermarks_eq {s : State} {r : Payload} {w : WaterSettings} (hw : waterSettingsOf r = some w)
    (hl : w.legal = true) : runSetWatermarks r s = okReply (s.withBuffer (s.buffer.withSettings w)).reviseLevels
      [byteOf (s.withBuffer (s.buffer.withSettings w)).reviseLevels.buffer.raisedCount] := by
  rw [runSetWatermarks, checked_eq hw, require_eq hl]

/-- Settles O44: the new settings are those of the buffer whose levels are re-evaluated, which does not look at the Management
Engine. -/
theorem setWatermarksReplacesAndReevaluates : Obligations.SetWatermarksReplacesAndReevaluates := by
  intro s r rest h w1 w2 w3 hyst fits
  refine ⟨fun hbad => ?_, fun a1 a2 a3 h1 h2 h3 hfits => ?_⟩
  · refine takeRequest_refuses h (checked_refuses fun w hw => require_refuses fun hl => ?_)
    obtain ⟨a1, a2, a3, h1, h2, h3⟩ := exists_of_waterSettingsOf hw
    rcases hbad with hbad | hbad | hbad | hbad
    · exact nomatch hbad.symm.trans h1
    · exact nomatch hbad.symm.trans h2
    · exact nomatch hbad.symm.trans h3
    · obtain rfl := Option.some.inj (hw.symm.trans (waterSettingsOf_eq h1 h2 h3))
      exact absurd ((WaterSettings.legal_iff_ordered _).mp hl) hbad
  · intro o up
    let w : WaterSettings := { w1 := w1, w2 := w2, w3 := w3, h := hyst, a1 := a1, a2 := a2, a3 := a3 }
    let v := s.withBuffer (s.buffer.withSettings w)
    have hrun := runSetWatermarks_eq (s := s.dequeue rest) (waterSettingsOf_eq h1 h2 h3)
      ((WaterSettings.legal_iff_ordered w).mpr hfits)
    have hlevels := congrArg (fun u => okReply u [byteOf u.buffer.raisedCount])
      (State.reviseLevels_withMgmt v { s.mgmt with requests := rest })
    have hup : v.buffer.shouldRaise = up := funext fun l => by cases l <;> rfl
    have hraised (l : Level) : (v.buffer.level l).raised = (s.buffer.level l).raised := by cases l <;> rfl
    refine (takeRequest_executes (u := v.reviseLevels) h (hrun.trans hlevels)).trans ?_
    simp only [State.withMgmt_buffer, v.reviseLevels_does, hup, hraised]
    rfl

/-! ## READ_POOL -/

/-- Settles O45: an executed READ_POOL restarts the peak, and a replayed one executes nothing. -/
theorem readPoolReturnsAndRestartsThePeak : Obligations.ReadPoolReturnsAndRestartsThePeak :=
  ⟨fun s _ _ h => takeRequest_executes (u := s.withBuffer { s.buffer with peak := s.buffer.occupancy }) h rfl,
    fun _ _ _ _ h hc ht hd hx => takeRequest_replays runReadPool h hc (by decide) ht hd hx⟩

end Sys2Proof.Machine

namespace Sys2Proof.Machine

/-! ## READ_COUNTERS -/

/-- A target of 0 is a flow, checked before clear (R159). -/
theorem runReadCounters_flow {s : State} {r : Payload} (ht : param r 0 = 0) : runReadCounters r s =
    withFlow r 1 s fun f => checked (optionOf (param r 4)) .badValue s fun clear => s.readFlowCounters f clear := by
  rw [runReadCounters, ht]
  rfl

/-- A target of 1 is a port, checked before clear (R159). -/
theorem runReadCounters_port {s : State} {r : Payload} (ht : param r 0 = 1) : runReadCounters r s =
    checked (portOf (param r 3)) .badValue s fun p =>
    checked (optionOf (param r 4)) .badValue s fun clear => s.readPortCounters p clear := by
  rw [runReadCounters, ht]
  rfl

/-- A byte within a two-way option's range says no by its number 0 (R193). -/
theorem optionOf_of_le_toNat {b : Byte} (h : b.toNat ≤ 1) : optionOf b = some (decide (b.toNat ≠ 0)) := by
  rw [optionOf_of_le h]
  exact congrArg some (decide_eq_decide.mpr (not_congr (BitVec.toNat_inj (y := 0)).symm))

/-- The counters of a flow are read, and are then zeroed or left, whatever stands in the Management Engine (R184). -/
theorem State.readFlowCounters_withMgmt (s : State) (m : Management) (f : FlowNo) (clear : Bool) :
    (s.withMgmt m).readFlowCounters f clear =
      okReply ((if clear then s.setFlowCounters f FlowCounters.zero else s).withMgmt m)
        ((s.flowCounters f).bytes ++ [byteOf (s.flow f).lifecycle.code]) := by
  cases clear <;> rfl

/-- The counters of a port are read, and are then zeroed or left, whatever stands in the Management Engine (R184). -/
theorem State.readPortCounters_withMgmt (s : State) (m : Management) (p : Port) (clear : Bool) :
    (s.withMgmt m).readPortCounters p clear =
      okReply ((if clear then s.setPortCounters p PortCounters.zero else s).withMgmt m)
        ((s.portCounters p).bytes ++ [byteOf (s.port p).link.code]) := by
  cases clear <;> cases p <;> rfl

/-- Settles O47: the target decides which check comes next, and clear whether the six counters that were read are zeroed. -/
theorem readCountersReturnsAndClears : Obligations.ReadCountersReturnsAndClears := by
  intro s r rest h refused clear
  refine ⟨fun ht => ?_, fun ht hf => ?_, fun ht hp => ?_, fun ht hf hc => ?_, fun ht hp hc => ?_, fun f ht hf hc => ?_,
    fun p ht hp hc => ?_⟩
  · exact takeRequest_refuses h (checked_of_none (optionOf_of_gt ht))
  · exact takeRequest_refuses h ((runReadCounters_flow ht).trans (withFlow_of_none hf))
  · exact takeRequest_refuses h ((runReadCounters_port ht).trans (checked_of_none hp))
  · obtain ⟨f, hf⟩ := Option.ne_none_iff_exists'.mp hf
    refine takeRequest_refuses h ((runReadCounters_flow ht).trans ?_)
    rw [withFlow_eq hf, checked_of_none (optionOf_of_gt hc)]
  · obtain ⟨p, hp⟩ := Option.ne_none_iff_exists'.mp hp
    refine takeRequest_refuses h ((runReadCounters_port ht).trans ?_)
    rw [checked_eq hp, checked_of_none (optionOf_of_gt hc)]
  · have hrun : runReadCounters r (s.dequeue rest) = (s.dequeue rest).readFlowCounters f (decide (clear ≠ 0)) := by
      rw [runReadCounters_flow ht, withFlow_eq hf, checked_eq (optionOf_of_le_toNat hc)]
    refine (takeRequest_executes h (hrun.trans (s.readFlowCounters_withMgmt _ f _))).trans ?_
    by_cases hz : clear = 0
    · rw [decide_eq_false (not_not.mpr hz), if_pos hz]
      rfl
    · rw [decide_eq_true hz, if_neg hz]
      rfl
  · have hrun : runReadCounters r (s.dequeue rest) = (s.dequeue rest).readPortCounters p (decide (clear ≠ 0)) := by
      rw [runReadCounters_port ht, checked_eq hp, checked_eq (optionOf_of_le_toNat hc)]
    refine (takeRequest_executes h (hrun.trans (s.readPortCounters_withMgmt _ p _))).trans ?_
    by_cases hz : clear = 0
    · rw [decide_eq_false (not_not.mpr hz)]
      rw [if_pos hz]
      rfl
    · rw [decide_eq_true hz]
      rw [if_neg hz]
      rfl

/-! ## START_PROBE and READ_PROBE -/

theorem State.cancelProbe_of_armed {s : State} (h : s.probe.state = .armed) :
    s.cancelProbe = (s.withProbe { s.probe with state := .aborted }).post (.probeDone s.probe.flow) .aborted :=
  if_pos h

theorem State.cancelProbe_of_not_armed {s : State} (h : s.probe.state ≠ .armed) : s.cancelProbe = s :=
  if_neg h

/-- A START_PROBE of no arrivals is a cancel (R189). -/
theorem runStartProbe_of_zero {s : State} {r : Payload} (hz : (param r 2).toNat = 0) :
    runStartProbe r s = okReply s.cancelProbe [byteOf s.cancelProbe.probe.state.code] := by
  rw [runStartProbe, hz]
  rfl

/-- Settles O48: the count, the flow, the probe and the flow's state are checked in this order, and neither a cancel nor an arming
looks at the Management Engine. -/
theorem startProbeArmsOrCancels : Obligations.StartProbeArmsOrCancels := by
  intro s r rest h n refused
  refine ⟨fun hn => ?_, fun hz ha => ?_, fun hz ha => ?_, fun hlo hhi hf => ?_, fun hlo hhi hf ha => ?_,
    fun f hlo hhi hf ha hl => ?_⟩
  · exact takeRequest_refuses h (checked_of_none (within_of_not_mem (.inr hn)))
  · refine takeRequest_reads h ?_
    rw [runStartProbe_of_zero hz, State.cancelProbe_of_not_armed (s := s.dequeue rest) ha]
    rfl
  · refine takeRequest_executes
      (u := (s.withProbe { s.probe with state := .aborted }).post (.probeDone s.probe.flow) .aborted) h ?_
    rw [runStartProbe_of_zero hz, State.cancelProbe_of_armed (s := s.dequeue rest) ha]
    rfl
  · exact takeRequest_refuses h ((runStartProbe_eq hlo hhi).trans (withFlow_of_none hf))
  · obtain ⟨f, hf⟩ := Option.ne_none_iff_exists'.mp hf
    refine takeRequest_refuses h ((runStartProbe_eq hlo hhi).trans ?_)
    rw [withFlow_eq hf]
    exact require_of_not (mt of_decide_eq_true (not_not.mpr ha))
  · have hlive : ((s.dequeue rest).flow f).lifecycle.live = true := (Lifecycle.live_iff _).mpr hl
    refine takeRequest_executes (u := s.armProbe f n) h ((runStartProbe_eq hlo hhi).trans ?_)
    rw [withFlow_eq hf, require_eq hlive]
    exact require_eq (decide_eq_true ha)

/-- The interval of entry place i, 0 where none is held (R195). -/
def intervalAt (l : List ProbeEntry) (i : Nat) : BitVec 16 :=
  l[i]?.elim 0 ProbeEntry.interval

/-- The 4-bit code of entry place i, 0 where none is held (R195). -/
def codeAt (l : List ProbeEntry) (i : Nat) : Nat :=
  l[i]?.elim 0 ProbeEntry.code

/-- The interval bytes are those of the entry places, in order. -/
theorem intervalBytes_eq (n : Nat) (l : List ProbeEntry) :
    intervalBytes n l = (List.range n).flatMap fun i => bytes2 (intervalAt l i) := by
  induction n generalizing l with
  | zero => rfl
  | succ n ih =>
    rw [List.range_succ_eq_map, List.flatMap_cons, List.flatMap_map]
    cases l with
    | nil => exact congrArg (0 :: 0 :: ·) (ih [])
    | cons e l => exact congrArg (bytes2 e.interval ++ ·) (ih l)

/-- The code bytes are those of the pairs of entry places, in order, the even place in the high half. -/
theorem codeBytes_eq (n : Nat) (l : List ProbeEntry) :
    codeBytes n l = (List.range n).map fun i => byteOf (codeAt l (2 * i) * 16 + codeAt l (2 * i + 1)) := by
  induction n generalizing l with
  | zero => rfl
  | succ n ih =>
    rw [List.range_succ_eq_map, List.map_cons, List.map_map]
    cases l with
    | nil => exact congrArg (0 :: ·) (ih [])
    | cons e l =>
      cases l with
      | nil => exact congrArg (byteOf (e.code * 16) :: ·) (ih [])
      | cons e' l => exact congrArg (byteOf (e.code * 16 + e'.code) :: ·) (ih l)

/-- Settles O49: the record's bytes are those of its eight entry places. -/
theorem readProbeReturnsTheRecord : Obligations.ReadProbeReturnsTheRecord := by
  intro s r rest h _ interval code
  refine (takeRequest_reads h rfl).trans ?_
  rw [Probe.bytes, intervalBytes_eq, codeBytes_eq]
  rfl

/-! ## GRANT_NOTICES, SET_NOTICE_ENABLE and SOFT_RESET -/

/-- A mask names no bit above the eleven kinds exactly when it is below 2^11 (R195, R196). -/
theorem high_bits_eq_zero_iff (w : BitVec 16) : w.extractLsb' 11 5 = 0 ↔ w.toNat ≤ 2047 := by
  have hw := w.isLt
  rw [← BitVec.toNat_inj, BitVec.extractLsb'_toNat, Nat.shiftRight_eq_div_pow]
  simp only [BitVec.ofNat_eq_ofNat, BitVec.toNat_ofNat]
  omega

theorem maskOf_of_le {w : BitVec 16} (h : w.toNat ≤ 2047) : maskOf w = some (w.setWidth 11) := by
  rw [maskOf, if_pos ((high_bits_eq_zero_iff w).mpr h)]
  exact congrArg some (BitVec.eq_of_toNat_eq (by simp))

theorem maskOf_of_gt {w : BitVec 16} (h : 2047 < w.toNat) : maskOf w = none :=
  if_neg (mt (high_bits_eq_zero_iff w).mp (Nat.not_le.mpr h))

/-- The enable set, read from a mask in range, is sent back as that mask (R163). -/
theorem setWidth_mask {w : BitVec 16} (h : w.toNat ≤ 2047) : (w.setWidth 11).setWidth 16 = w := by
  refine BitVec.eq_of_toNat_eq ?_
  rw [BitVec.toNat_setWidth, BitVec.toNat_setWidth]
  omega

/-- A posting of a kind outside the enable set is dropped (R173). -/
theorem NoticeUnit.post_of_disabled {u : NoticeUnit} {n : Notice} (h : u.enabled.getLsbD (n.code - 1) = false) (now : Stamp)
    (d : Detail) : u.post n now d = u :=
  if_pos (congrArg Bool.not h)

/-- Settles O50: each request has the one check of its number, and a posting looks at the enable set first. -/
theorem creditAndEnableSetAreReplaced : Obligations.CreditAndEnableSetAreReplaced := by
  refine ⟨fun s r rest h => ⟨fun hn => ?_, fun hn => ?_⟩, fun s r rest h => ⟨fun hw => ?_, fun hw => ?_⟩,
    fun u n now d hoff => NoticeUnit.post_of_disabled hoff now d⟩
  · exact takeRequest_refuses h (checked_of_none (within_of_not_mem (.inr hn)))
  · exact takeRequest_executes (u := s.withNotices (s.notices.grant (param r 0).toNat)) h
      (checked_eq (within_of_mem (Nat.zero_le _) hn))
  · exact takeRequest_refuses h (checked_of_none (maskOf_of_gt hw))
  · rw [← bytes2_param2 r 0]
    refine takeRequest_executes (u := s.withNotices { s.notices with enabled := (param2 r 0).setWidth 11 }) h ?_
    rw [runSetNoticeEnable, checked_eq (maskOf_of_le hw), setWidth_mask hw]
    rfl

/-- Settles O51: what SOFT_RESET replaces it gives the values of power-on, and it does not look at the Management Engine. -/
theorem softResetResetsTheDatapath : Obligations.SoftResetResetsTheDatapath := fun _ _ _ h =>
  ⟨_, exec_softReset h, rfl, rfl, rfl, rfl, rfl, rfl, rfl, rfl, rfl, rfl⟩

end Sys2Proof.Machine

namespace Sys2Proof.Machine

/-! ## What a posting does -/

/-- A record of this kind and subject is queued (R170). -/
theorem NoticeUnit.holds_iff (u : NoticeUnit) (n : Notice) : u.holds n = true ↔ ∃ x ∈ u.records, x.what = n := by
  simp [NoticeUnit.holds]

section
variable {u : NoticeUnit} {n : Notice} {now : Stamp} {d : Detail}

/-- A record of the posting's kind and subject absorbs it, however many are queued (R170). -/
theorem NoticeUnit.post_of_holds (hon : u.enables n = true) (hheld : u.holds n = true) : u.post n now d = u.merge n := by
  rw [NoticeUnit.post, if_neg (by simp [hon]), if_pos hheld]

/-- With no record to merge into and fewer than 31 queued, the posting gets a record of its own (R171). -/
theorem NoticeUnit.post_of_room (hon : u.enables n = true) (hnew : ¬ u.holds n = true) (hroom : u.records.length < 31) :
    u.post n now d = u.append n now d := by
  rw [NoticeUnit.post, if_neg (by simp [hon]), if_neg hnew]
  exact if_pos hroom

/-- With no record to merge into and 31 queued, the posting is lost (R172). -/
theorem NoticeUnit.post_of_full (hon : u.enables n = true) (hnew : ¬ u.holds n = true) (hfull : 31 ≤ u.records.length) :
    u.post n now d = u.lose now := by
  rw [NoticeUnit.post, if_neg (by simp [hon]), if_neg hnew]
  exact if_neg hfull.not_gt

/-- With NOTICES_LOST disabled a loss leaves no trace (R172). -/
theorem NoticeUnit.lose_of_disabled (hoff : ¬ u.enables .noticesLost = true) : u.lose now = u :=
  if_neg hoff

/-- A loss is counted in the NOTICES_LOST record that is queued (R172). -/
theorem NoticeUnit.lose_of_holds (hon : u.enables .noticesLost = true) (hheld : u.holds .noticesLost = true) :
    u.lose now = u.merge .noticesLost := by
  rw [NoticeUnit.lose, if_pos hon, if_pos hheld]

/-- The first loss appends NOTICES_LOST (R172). -/
theorem NoticeUnit.lose_of_new (hon : u.enables .noticesLost = true) (hnew : ¬ u.holds .noticesLost = true) :
    u.lose now = u.append .noticesLost now .none := by
  rw [NoticeUnit.lose, if_pos hon, if_neg hnew]

end

/-- A merge, with the saturation of the count written out: it rises by 1 while it is below 255 (R167). -/
theorem NoticeUnit.merge_eq (u : NoticeUnit) (n : Notice) :
    u.merge n = { u with records := u.records.map fun x =>
      if x.what = n then { x with count := if x.count < 255 then x.count + 1 else 255 } else x } := by
  have hsaturates (c : Nat) : min (c + 1) 255 = if c < 255 then c + 1 else 255 := by
    split_ifs <;> omega
  simp only [NoticeUnit.merge, hsaturates]

/-- Settles O52: each clause is one outcome of a posting, and a lost posting has the three outcomes of a loss. -/
theorem postingsMergeAppendOrAreLost : Obligations.PostingsMergeAppendOrAreLost := by
  intro u n now d on raised queued
  simp only [queued, ← NoticeUnit.holds_iff]
  refine ⟨fun hoff => NoticeUnit.post_of_disabled hoff now d, fun hon hheld _ => ?_,
    fun hon hnew hroom => NoticeUnit.post_of_room hon hnew hroom, fun hon hnew hfull hoff => ?_,
    fun hon hnew hfull hlost hheld _ => ?_, fun hon hnew hfull hlost hfirst => ?_⟩
  · exact (NoticeUnit.post_of_holds hon hheld).trans (u.merge_eq n)
  · exact (NoticeUnit.post_of_full hon hnew hfull).trans (NoticeUnit.lose_of_disabled (Bool.eq_false_iff.mp hoff))
  · exact (NoticeUnit.post_of_full hon hnew hfull).trans
      ((NoticeUnit.lose_of_holds hlost hheld).trans (u.merge_eq .noticesLost))
  · exact (NoticeUnit.post_of_full hon hnew hfull).trans (NoticeUnit.lose_of_new hlost hfirst)

/-! ## The law of the Notice Queue under its operations -/

theorem NoticeLaw.same {s t : State} (h : NoticeLaw s) (e : t.notices = s.notices) : NoticeLaw t := by
  obtain ⟨hlength, hplaces, hdistinct, hcounts, hdetails, hcredit⟩ := h
  constructor <;> rwa [e]

/-- A merge moves no record and changes no kind or subject (R170). -/
theorem NoticeUnit.merge_whats (u : NoticeUnit) (n : Notice) :
    (u.merge n).records.map NoticeRecord.what = u.records.map NoticeRecord.what := by
  rw [NoticeUnit.merge, List.map_map]
  refine List.map_congr_left fun r _ => ?_
  simp only [Function.comp_apply]
  split_ifs <;> rfl

/-- A merged record keeps its kind, subject and detail, and its count stays in 1..255 (R167, R170). -/
theorem NoticeUnit.mem_merge {u : NoticeUnit} {n : Notice} {r : NoticeRecord} (h : r ∈ (u.merge n).records) :
    ∃ x ∈ u.records, r.what = x.what ∧ r.detail = x.detail ∧ (r.count = x.count ∨ r.count = min (x.count + 1) 255) := by
  obtain ⟨x, hx, rfl⟩ := List.mem_map.mp h
  refine ⟨x, hx, ?_⟩
  split_ifs
  · exact ⟨rfl, rfl, .inr rfl⟩
  · exact ⟨rfl, rfl, .inl rfl⟩

/-- The number of records of other kinds than `n` is a matter of the kinds alone. -/
theorem length_filter_what (l : List NoticeRecord) (n : Notice) :
    (l.filter fun r => r.what ≠ n).length = ((l.map NoticeRecord.what).filter fun k => k ≠ n).length := by
  rw [List.filter_map, List.length_map]
  rfl

theorem NoticeLaw.merged {s t : State} {n : Notice} (h : NoticeLaw s) (e : t.notices = s.notices.merge n) : NoticeLaw t := by
  have hwhats := s.notices.merge_whats n
  constructor <;> rw [e]
  case length =>
    rw [NoticeUnit.merge, List.length_map]
    exact h.length
  case places =>
    rw [length_filter_what, hwhats, ← length_filter_what]
    exact h.places
  case distinct =>
    rw [hwhats]
    exact h.distinct
  case counts =>
    intro r hr
    obtain ⟨x, hx, -, -, hcount⟩ := NoticeUnit.mem_merge hr
    have := h.counts x hx
    omega
  case details =>
    intro r hr
    obtain ⟨x, hx, hwhat, hdetail, -⟩ := NoticeUnit.mem_merge hr
    rw [hwhat, hdetail]
    exact h.details x hx
  case credit => exact h.credit

/-- A new record keeps the law while there is a place for it: 32 in all, 31 of other kinds than NOTICES_LOST. -/
theorem NoticeLaw.appended {s t : State} {n : Notice} {now : Stamp} {d : Detail} (h : NoticeLaw s)
    (e : t.notices = s.notices.append n now d) (hnew : ¬ s.notices.holds n = true) (hfit : n.detailFits d = true)
    (hlength : s.notices.records.length < 32)
    (hplaces : ((s.notices.append n now d).records.filter fun r => r.what ≠ .noticesLost).length ≤ 31) : NoticeLaw t := by
  constructor <;> rw [e]
  case length => simpa [NoticeUnit.append] using hlength
  case places => exact hplaces
  case distinct =>
    rw [NoticeUnit.append, List.map_append, List.map_singleton, List.nodup_append]
    refine ⟨h.distinct, List.nodup_singleton _, fun k hk m hm e => hnew ?_⟩
    obtain ⟨x, hx, rfl⟩ := List.mem_map.mp hk
    exact (s.notices.holds_iff n).mpr ⟨x, hx, e.trans (List.mem_singleton.mp hm)⟩
  case counts =>
    intro r hr
    rcases List.mem_append.mp hr with hr | hr
    · exact h.counts r hr
    · rw [List.mem_singleton.mp hr]
      exact ⟨le_rfl, by simp⟩
  case details =>
    intro r hr
    rcases List.mem_append.mp hr with hr | hr
    · exact h.details r hr
    · rw [List.mem_singleton.mp hr]
      exact hfit
  case credit => exact h.credit

/-- With no NOTICES_LOST queued every record is of another kind, so that the 32nd place is free (R172). -/
theorem NoticeLaw.length_of_none_lost {s : State} (h : NoticeLaw s) (hnew : ¬ s.notices.holds .noticesLost = true) :
    s.notices.records.length ≤ 31 := by
  have hall : ∀ r ∈ s.notices.records, decide (r.what ≠ .noticesLost) = true := fun r hr =>
    decide_eq_true fun e => hnew ((s.notices.holds_iff _).mpr ⟨r, hr, e⟩)
  rw [← List.filter_eq_self.mpr hall]
  exact h.places

/-- A loss is merged into NOTICES_LOST, takes the place kept for it, or is dropped (R172). -/
theorem NoticeLaw.lost {s t : State} {now : Stamp} (h : NoticeLaw s) (e : t.notices = s.notices.lose now) : NoticeLaw t := by
  by_cases hon : s.notices.enables .noticesLost = true
  · by_cases hheld : s.notices.holds .noticesLost = true
    · exact h.merged (e.trans (NoticeUnit.lose_of_holds hon hheld))
    · refine h.appended (e.trans (NoticeUnit.lose_of_new hon hheld)) hheld rfl
        (Nat.lt_succ_of_le (h.length_of_none_lost hheld)) ?_
      rw [NoticeUnit.append, List.filter_append]
      simpa using h.places
  · exact h.same (e.trans (NoticeUnit.lose_of_disabled hon))

/-- A posting whose detail fits its kind keeps the law, whichever of its outcomes it has (R170 to R173). -/
theorem NoticeLaw.posted {s t : State} {n : Notice} {now : Stamp} {d : Detail} (h : NoticeLaw s)
    (e : t.notices = s.notices.post n now d) (hfit : n.detailFits d = true) : NoticeLaw t := by
  by_cases hon : s.notices.enables n = true
  · by_cases hheld : s.notices.holds n = true
    · exact h.merged (e.trans (NoticeUnit.post_of_holds hon hheld))
    · by_cases hroom : s.notices.records.length < 31
      · refine h.appended (e.trans (NoticeUnit.post_of_room hon hheld hroom)) hheld hfit (hroom.trans (by decide)) ?_
        refine (List.length_filter_le _ _).trans ?_
        simpa [NoticeUnit.append] using hroom
      · exact h.lost (e.trans (NoticeUnit.post_of_full hon hheld (not_lt.mp hroom)))
  · exact h.same (e.trans (NoticeUnit.post_of_disabled (Bool.eq_false_iff.mpr hon) now d))

/-- Each posting of the list has a detail that its kind carries (R168). -/
def FittingPostings (l : List (Notice × Detail)) : Prop :=
  ∀ x ∈ l, x.1.detailFits x.2 = true

theorem NoticeLaw.postedAll {now : Stamp} {l : List (Notice × Detail)} : ∀ {s t : State}, NoticeLaw s → FittingPostings l →
    t.notices = s.notices.postAll now l → NoticeLaw t := by
  induction l with
  | nil => exact fun h _ e => h.same e
  | cons x l ih =>
    intro s t h hfit e
    obtain ⟨hx, hl⟩ := List.forall_mem_cons.mp hfit
    have hfirst : NoticeLaw (s.withNotices (s.notices.post x.1 now x.2)) := h.posted rfl hx
    exact ih hfirst hl e

/-- A record sent leaves the others, and the credit falls (R174, R175). -/
theorem NoticeLaw.emitted {s t : State} {r : NoticeRecord} (h : NoticeLaw s) (e : t.notices = s.notices.emit r) :
    NoticeLaw t := by
  have hsub : (s.notices.emit r).records.Sublist s.notices.records := List.erase_sublist
  constructor <;> rw [e]
  case length => exact hsub.length_le.trans h.length
  case places => exact (hsub.filter _).length_le.trans h.places
  case distinct => exact h.distinct.sublist (hsub.map _)
  case counts => exact fun x hx => h.counts x (hsub.subset hx)
  case details => exact fun x hx => h.details x (hsub.subset hx)
  case credit => exact (Nat.sub_le _ _).trans h.credit

/-- The law after a change of the credit alone, or of settings that it does not speak of. -/
theorem NoticeLaw.of_records {s t : State} (h : NoticeLaw s) (e : t.notices.records = s.notices.records)
    (hcredit : t.notices.credit ≤ 32) : NoticeLaw t := by
  obtain ⟨hlength, hplaces, hdistinct, hcounts, hdetails, -⟩ := h
  refine ⟨?_, ?_, ?_, ?_, ?_, hcredit⟩ <;> rwa [e]

/-- An empty Notice Queue with no credit satisfies the law (R177). -/
theorem noticeLaw_of_empty {t : State} (hrecords : t.notices.records = []) (hcredit : t.notices.credit = 0) : NoticeLaw t :=
  noticeLaw_reset.of_records hrecords (hcredit.trans_le (Nat.zero_le _))

end Sys2Proof.Machine

namespace Sys2Proof.Machine

/-! ## The slot that carries a notice -/

/-- The first record of its severity is the oldest of that severity. -/
theorem find?_severity_of_first {before behind : List NoticeRecord} {x : NoticeRecord}
    (h : ∀ y ∈ before, x.severity.code < y.severity.code) :
    ((before ++ x :: behind).find? fun r => r.severity = x.severity) = some x := by
  refine List.find?_eq_some_iff_append.mpr ⟨decide_eq_true rfl, before, behind, rfl, fun y hy => ?_⟩
  have hne : ¬ y.severity = x.severity := fun e => (h y hy).ne (congrArg Severity.code e.symm)
  simp [hne]

/-- No record is found of a severity above every one queued. -/
theorem find?_severity_of_above {l : List NoticeRecord} {v : Severity} (h : ∀ y ∈ l, v.code < y.severity.code) :
    (l.find? fun r => r.severity = v) = none := by
  refine List.find?_eq_none.mpr fun y hy => ?_
  have hne : ¬ y.severity = v := fun e => (h y hy).ne (congrArg Severity.code e.symm)
  simp [hne]

/-- The record that is more severe than those before it and no less severe than those behind it is the one sent (R174). -/
theorem NoticeUnit.choice_eq {u : NoticeUnit} {before behind : List NoticeRecord} {x : NoticeRecord}
    (hrecords : u.records = before ++ x :: behind) (hbefore : ∀ y ∈ before, x.severity.code < y.severity.code)
    (hbehind : ∀ y ∈ behind, x.severity.code ≤ y.severity.code) : u.choice = some x := by
  have hfirst := find?_severity_of_first (behind := behind) hbefore
  have habove (v : Severity) (hv : v.code < x.severity.code) :
      ((before ++ x :: behind).find? fun r => r.severity = v) = none := by
    refine find?_severity_of_above fun y hy => ?_
    rcases List.mem_append.mp hy with hy | hy
    · exact hv.trans (hbefore y hy)
    · rcases List.mem_cons.mp hy with rfl | hy
      · exact hv
      · exact hv.trans_le (hbehind y hy)
  rw [NoticeUnit.choice, hrecords]
  cases hx : x.severity with
  | urgent =>
    rw [hx] at hfirst
    rw [hfirst]
    rfl
  | normal =>
    rw [hx] at hfirst habove
    rw [hfirst, habove .urgent (by decide)]
    rfl
  | info =>
    rw [hx] at hfirst habove
    rw [hfirst, habove .urgent (by decide), habove .normal (by decide)]
    rfl

/-- With no response queued, and credit, the slot is the chosen notice's (R93, R95). -/
theorem State.slotChoice_of_notice {s : State} {x : NoticeRecord} (hresponses : s.mgmt.responses = [])
    (hcredit : 0 < s.notices.credit) (hchoice : s.notices.choice = some x) : s.slotChoice .T = .notice x := by
  rw [State.slotChoice, hresponses]
  dsimp only
  rw [State.noticeChoice, hchoice]
  exact if_pos hcredit

/-- The sending of the first record of its severity takes that record out, and the others close up (R174). -/
theorem NoticeUnit.emit_eq {u : NoticeUnit} {before behind : List NoticeRecord} {x : NoticeRecord}
    (hrecords : u.records = before ++ x :: behind) (hbefore : ∀ y ∈ before, x.severity.code < y.severity.code) :
    u.emit x = { u with records := before ++ behind, credit := u.credit - 1, seq := u.seq + 1 } := by
  have hx : x ∉ before := fun hx => (hbefore x hx).false
  rw [NoticeUnit.emit, hrecords, List.erase_append_right _ hx, List.erase_cons_head]

/-- Settles O21: the arbiter chooses that record, and the slot sends it. -/
theorem slotCarriesTheMostSevereOldestNotice : Obligations.SlotCarriesTheMostSevereOldestNotice := by
  intro s before x behind hup hresponses hcredit hrecords hbefore hbehind
  have hslot := State.slotChoice_of_notice hresponses hcredit (NoticeUnit.choice_eq hrecords hbefore hbehind)
  rw [exec_egressSlot, State.egress_of_up (p := .T) hup, State.openSlot, hslot]
  dsimp only
  rw [State.sendNotice, NoticeUnit.emit_eq hrecords hbefore]
  rfl

end Sys2Proof.Machine

namespace Sys2Proof.Machine

/-! ## What a step can do to the Notice Queue -/

theorem fittingPostings_nil : FittingPostings [] := fun _ h => nomatch h

theorem FittingPostings.append {l m : List (Notice × Detail)} (hl : FittingPostings l) (hm : FittingPostings m) :
    FittingPostings (l ++ m) := fun x hx => (List.mem_append.mp hx).elim (hl x) (hm x)

theorem FittingPostings.ite {l : List (Notice × Detail)} (h : FittingPostings l) (c : Prop) [Decidable c] :
    FittingPostings (if c then l else []) :=
  iteInduction (motive := FittingPostings) (fun _ => h) fun _ => fittingPostings_nil

theorem fittingPostings_single {n : Notice} {d : Detail} (h : n.detailFits d = true) : FittingPostings [(n, d)] :=
  fun _ hx => List.mem_singleton.mp hx ▸ h

theorem fittingPostings_rise (up : Level → Bool) : FittingPostings (risePostings up) := fun _ hx => by
  obtain ⟨l, -, rfl⟩ := List.mem_map.mp hx
  rfl

theorem fittingPostings_fall (down : Level → Bool) : FittingPostings (fallPostings down) := fun _ hx => by
  obtain ⟨l, -, rfl⟩ := List.mem_map.mp hx
  rfl

theorem FlowRecord.fittingPostings_boundary (r : FlowRecord) (f : FlowNo) : FittingPostings (r.boundaryPostings f) :=
  (fittingPostings_single rfl).ite _

theorem State.fittingPostings_flush (s : State) (f : FlowNo) : FittingPostings (s.flushPostings f) :=
  ((fittingPostings_fall _).append ((fittingPostings_single rfl).ite _)).append ((fittingPostings_single rfl).ite _)

theorem State.fittingPostings_release (s : State) (p : Port) : FittingPostings (s.releasePostings p) :=
  (fittingPostings_single rfl).ite _

/-- What one event does to the Notice Queue unit `u`: the postings of the event in turn (R171), the sending of a record (R174), a
grant of credit (R176), another enable set (R173), or a reset (R177). -/
inductive NoticeEffect (u : NoticeUnit) : NoticeUnit → Prop
  | posts (now : Stamp) {l : List (Notice × Detail)} (fits : FittingPostings l) : NoticeEffect u (u.postAll now l)
  | sends (r : NoticeRecord) : NoticeEffect u (u.emit r)
  | grants (n : Nat) : NoticeEffect u (u.grant n)
  | enables (kinds : BitVec 11) : NoticeEffect u { u with enabled := kinds }
  | resets {v : NoticeUnit} (records : v.records = []) (credit : v.credit = 0) : NoticeEffect u v

/-- The event from `s` to `t` has one of these effects on the Notice Queue. -/
def NoticeStep (s t : State) : Prop :=
  NoticeEffect s.notices t.notices

theorem NoticeStep.of_posts {s t : State} {now : Stamp} {l : List (Notice × Detail)} (fits : FittingPostings l)
    (e : t.notices = s.notices.postAll now l) : NoticeStep s t := by
  rw [NoticeStep, e]
  exact .posts now fits

theorem NoticeStep.of_post {s t : State} {n : Notice} {now : Stamp} {d : Detail} (fits : n.detailFits d = true)
    (e : t.notices = s.notices.post n now d) : NoticeStep s t :=
  .of_posts (fittingPostings_single fits) e

/-- An event that leaves the Notice Queue posts nothing. -/
theorem NoticeStep.of_same {s t : State} (e : t.notices = s.notices) : NoticeStep s t :=
  .of_posts (now := 0) fittingPostings_nil e

theorem NoticeStep.refl (s : State) : NoticeStep s s := .of_same rfl

/-- A row that names a part of an event is that event or nothing (log entry 5). -/
theorem NoticeStep.ite {s t : State} {c : Bool} (h : NoticeStep s t) : NoticeStep s (if c then t else s) :=
  iteInduction (motive := NoticeStep s) (fun _ => h) fun _ => .refl s

/-- Each of the effects keeps the law of the Notice Queue. -/
theorem NoticeLaw.step {s t : State} (h : NoticeLaw s) (k : NoticeStep s t) : NoticeLaw t := by
  unfold NoticeStep at k
  generalize hv : t.notices = v at k
  cases k with
  | posts now fits => exact h.postedAll fits hv
  | sends r => exact h.emitted hv
  | grants n =>
    have hcut : (s.notices.grant n).credit ≤ 32 := min_le_right _ _
    exact h.of_records (by rw [hv, NoticeUnit.grant]) (hv ▸ hcut)
  | enables kinds => exact h.of_records (by rw [hv]) (by rw [hv]; exact h.credit)
  | resets hrecords hcredit => exact noticeLaw_of_empty (hv ▸ hrecords) (hv ▸ hcredit)

/-! ### Arrivals -/

/-- An admission posts at most the discard's notice, or those of the enqueue (R74 to R76). -/
theorem State.admitCell_notices (s : State) (f : FlowNo) (c : StoredCell) :
    ∃ l, FittingPostings l ∧ (s.admitCell f c).notices = s.notices.postAll s.now l := by
  unfold State.admitCell
  cases s.admission f c with
  | discardedPolice => exact ⟨[], fittingPostings_nil, rfl⟩
  | discardedShed => exact ⟨[], fittingPostings_nil, rfl⟩
  | discardedQueue => exact ⟨[(.queueFull f, .none)], fittingPostings_single rfl, rfl⟩
  | discardedPool => exact ⟨[(.poolFull, .none)], fittingPostings_single rfl, rfl⟩
  | queued =>
    cases hfree : s.buffer.freeList with
    | nil => exact ⟨[], fittingPostings_nil, by simp [State.enqueue, hfree]⟩
    | cons slot rest =>
      exact ⟨_, (((s.flow f).fittingPostings_boundary f).ite _).append (fittingPostings_rise _),
        State.enqueue_notices hfree f c⟩

/-- A capture posts PROBE_DONE (COMPLETE) where it completes the probe (R187). -/
theorem State.capture_notices (s : State) (f : FlowNo) (v : Verdict) (o : Admission) :
    (s.capture f v o).notices = s.notices.postAll s.now
      (if s.probe.watches f = true ∧ s.probe.completes = true then [(.probeDone f, .complete)] else []) := by
  unfold State.capture
  cases s.probe.watches f <;> cases s.probe.completes <;> rfl

theorem noticeStep_deliver (s : State) (f : FlowNo) (c : StoredCell) : NoticeStep s (s.deliver f c) := by
  obtain ⟨l, hfits, hadmitted⟩ := s.admitCell_notices f c
  have hnow : (s.admitCell f c).now = s.now := by simp [State.now]
  have hcaptured := (s.admitCell f c).capture_notices f ((s.flow f).judge s.now) (s.admission f c)
  rw [hnow, hadmitted, ← NoticeUnit.postAll_append] at hcaptured
  exact .of_posts (hfits.append ((fittingPostings_single rfl).ite _)) hcaptured

theorem noticeStep_receive (s : State) (p : Port) (c : Cell) : NoticeStep s (s.receive p c) := by
  unfold State.receive
  split_ifs
  · dsimp only
    cases classify p c with
    | idle => exact .refl s
    | misdirected => exact .of_same (by simp)
    | request => exact .of_same (by simp)
    | user ch de =>
      dsimp only
      cases s.lookup p ch with
      | none => exact .of_same (by simp)
      | some f =>
        have hdelivered := noticeStep_deliver (s.countPort p PortCounters.addReceived) f (c.stored de)
        rwa [NoticeStep, State.countPort_notices] at hdelivered
  · exact .of_post (n := .headerErrors p) (now := s.time.now) (d := .none) rfl (by simp)

theorem noticeStep_arrive (s : State) (p : Port) (cell : List Byte) : NoticeStep s (s.arrive p cell) := by
  unfold State.arrive
  split_ifs
  · exact noticeStep_receive s p _
  · exact .refl s

/-! ### Slots -/

/-- A departure posts the levels that clear, the promotion of a cycle boundary and the end of a drain (R97, R98). -/
theorem noticeStep_depart (s : State) (p : Port) (q : Priority) (f : FlowNo) : NoticeStep s (s.depart p q f) := by
  cases hq : (s.flow f).queue with
  | nil => exact .of_same (by simp [State.depart, hq])
  | cons slot rest =>
    exact .of_posts (((fittingPostings_fall _).append (((s.flow f).fittingPostings_boundary f).ite _)).append
      ((fittingPostings_single rfl).ite _)) (State.depart_notices hq p q)

theorem noticeStep_egress (s : State) (p : Port) : NoticeStep s (s.egress p) := by
  unfold State.egress State.openSlot
  split_ifs
  · cases s.slotChoice p with
    | response x rest => exact .of_same (by simp)
    | notice r =>
      have hsent : (s.sendNotice r).notices = s.notices.emit r := by simp [State.sendNotice]
      rw [NoticeStep, hsent]
      exact .sends r
    | departure q f => exact noticeStep_depart s p q f
    | idle => exact .of_same (by simp)
  · exact .refl s

/-! ### Time and links -/

theorem noticeStep_tick (s : State) : NoticeStep s s.tick := .of_same (by simp)

theorem noticeStep_clockPeriod (s : State) : NoticeStep s s.clockPeriod := by
  unfold State.clockPeriod
  split_ifs
  · exact .refl s
  · exact noticeStep_tick s
  · exact .of_same rfl

/-- A line-OK input that rises posts LINK_UP, where it makes a transition (R120). -/
theorem noticeStep_assertLineOk (s : State) (p : Port) : NoticeStep s (s.assertLineOk p) := by
  unfold State.assertLineOk State.setLineOk
  split_ifs
  · exact .refl s
  · exact .of_same (by simp)
  · exact .of_post (n := .linkUp p) (now := s.time.now) (d := .none) rfl (by simp [State.linkUp])

/-- A line-OK input that falls posts LINK_DOWN, where it makes a transition (R119). -/
theorem noticeStep_deassertLineOk (s : State) (p : Port) : NoticeStep s (s.deassertLineOk p) := by
  unfold State.deassertLineOk State.setLineOk
  split_ifs
  · exact .of_same (by simp)
  · exact .of_post (n := .linkDown p) (now := s.time.now) (d := .none) rfl (by simp [State.linkDown])
  · exact .refl s

theorem noticeStep_holdReset (s : State) : NoticeStep s s.holdReset :=
  .resets (datapathReset_holdReset s).records (datapathReset_holdReset s).credit

/-- The release posts LINK_UP for each port whose line-OK input is asserted (R118). -/
theorem noticeStep_releaseReset (s : State) (first : Port) : NoticeStep s (s.releaseReset first) := by
  unfold State.releaseReset
  split_ifs
  · obtain ⟨-, -, hnotices⟩ := State.follow_both { s with resetHeld := false } first
    exact .of_posts ((State.fittingPostings_release _ _).append (State.fittingPostings_release _ _)) hnotices
  · exact .refl s

end Sys2Proof.Machine

namespace Sys2Proof.Machine

/-! ### What the requests do to the Notice Queue -/

section
variable (r : Payload) (s : State)

/-- The requests on contracts post nothing: their promotions are no cycle boundary's (R14, R19). -/
theorem noticeStep_setContract : NoticeStep s (runSetContract r s).state := by
  refine withFlow_keeps (.refl s) fun f => require_keeps (.refl s) fun _ => checked_keeps (.refl s) fun c _ => .of_same ?_
  unfold State.setContract
  dsimp only
  split_ifs <;> simp [okReply, acceptReply]

theorem noticeStep_commitContract : NoticeStep s (runCommitContract r s).state :=
  withFlow_keeps (.refl s) fun _ => require_keeps (.refl s) fun _ => require_keeps (.refl s) fun _ =>
    .of_same (by simp [okReply])

theorem noticeStep_openFlow : NoticeStep s (runOpenFlow r s).state :=
  withFlow_keeps (.refl s) fun _ => checked_keeps (.refl s) fun _ _ => checked_keeps (.refl s) fun _ _ =>
    checked_keeps (.refl s) fun _ _ => checked_keeps (.refl s) fun _ _ => checked_keeps (.refl s) fun _ _ =>
      require_keeps (.refl s) fun _ => .of_same rfl

theorem noticeStep_suspendFlow : NoticeStep s (runSuspendFlow r s).state :=
  withFlow_keeps (.refl s) fun _ => require_keeps (.refl s) fun _ => .of_same (by simp [okReply])

theorem noticeStep_resumeFlow : NoticeStep s (runResumeFlow r s).state := by
  refine withFlow_keeps (.refl s) fun f => checked_keeps (.refl s) fun restart _ => require_keeps (.refl s) fun _ =>
    .of_same ?_
  cases restart <;> simp [okReply]

/-- The abort of a probe posts PROBE_DONE (ABORTED) (R190). -/
theorem State.abortProbe_notices (f : FlowNo) : (s.abortProbe f).notices = s.notices.postAll s.time.now
    (if s.probe.state = .armed ∧ s.probe.flow = f then [(.probeDone f, .aborted)] else []) := by
  rw [State.abortProbe_eq, NoticeUnit.postAll_ite]

theorem noticeStep_abortProbe (f : FlowNo) : NoticeStep s (s.abortProbe f) :=
  .of_posts ((fittingPostings_single rfl).ite _) (s.abortProbe_notices f)

theorem noticeStep_cancelProbe : NoticeStep s s.cancelProbe := by
  unfold State.cancelProbe
  split_ifs
  · exact .of_post (n := .probeDone s.probe.flow) (d := .aborted) rfl rfl
  · exact .refl s

/-- A DRAIN posts no more than the abort of the flow's probe (R33, R34). -/
theorem noticeStep_closeDrain (f : FlowNo) : NoticeStep s (s.closeDrain f).state := by
  unfold State.closeDrain
  cases (s.flow f).lifecycle with
  | opened =>
    dsimp only
    split_ifs
    · exact noticeStep_abortProbe (s.setFlow f _) f
    · exact noticeStep_abortProbe (s.setFlow f _) f
  | unused => exact .refl s
  | suspended => exact .refl s
  | draining => exact .refl s

theorem noticeStep_closeFlush (f : FlowNo) : NoticeStep s (s.closeFlush f).state := by
  by_cases hl : (s.flow f).lifecycle = .unused
  · rw [State.closeFlush, hl]
    exact .refl s
  · rw [State.closeFlush_of_used hl]
    exact .of_posts (s.fittingPostings_flush f) (congrArg State.notices (s.flush_does f))

theorem noticeStep_closeFlow : NoticeStep s (runCloseFlow r s).state := by
  refine withFlow_keeps (.refl s) fun f => checked_keeps (.refl s) fun flush _ => require_keeps (.refl s) fun _ => ?_
  cases flush with
  | false => exact noticeStep_closeDrain s f
  | true => exact noticeStep_closeFlush s f

theorem noticeStep_writeMap : NoticeStep s (runWriteMap r s).state :=
  checked_keeps (.refl s) fun _ _ => checked_keeps (.refl s) fun _ _ => checked_keeps (.refl s) fun _ _ =>
    require_keeps (.refl s) fun _ => checked_keeps (.refl s) fun _ _ => .of_same rfl

theorem noticeStep_readMap : NoticeStep s (runReadMap r s).state :=
  checked_keeps (.refl s) fun _ _ => checked_keeps (.refl s) fun _ _ => checked_keeps (.refl s) fun _ _ =>
    checked_keeps (.refl s) fun _ _ => require_keeps (.refl s) fun _ => .refl s

theorem noticeStep_swapMap : NoticeStep s (runSwapMap r s).state := by
  unfold runSwapMap
  split
  · exact .refl s
  · exact .of_same rfl

/-- The re-evaluation posts the levels that rise and then those that clear (R84). -/
theorem noticeStep_setWatermarks : NoticeStep s (runSetWatermarks r s).state :=
  checked_keeps (.refl s) fun w _ => require_keeps (.refl s) fun _ =>
    .of_posts ((fittingPostings_rise _).append (fittingPostings_fall _))
      (congrArg State.notices (s.withBuffer (s.buffer.withSettings w)).reviseLevels_does)

theorem noticeStep_readCounters : NoticeStep s (runReadCounters r s).state := by
  refine checked_keeps (.refl s) fun port _ => ?_
  cases port with
  | true =>
    refine checked_keeps (.refl s) fun p _ => checked_keeps (.refl s) fun clear _ => .of_same ?_
    cases clear <;> simp [State.readPortCounters, okReply]
  | false =>
    refine withFlow_keeps (.refl s) fun f => checked_keeps (.refl s) fun clear _ => .of_same ?_
    cases clear <;> simp [State.readFlowCounters, okReply]

theorem noticeStep_startProbe : NoticeStep s (runStartProbe r s).state := by
  refine checked_keeps (.refl s) fun n _ => ?_
  split_ifs
  · exact noticeStep_cancelProbe s
  · exact withFlow_keeps (.refl s) fun f => require_keeps (.refl s) fun _ => require_keeps (.refl s) fun _ => .of_same rfl

theorem noticeStep_grantNotices : NoticeStep s (runGrantNotices r s).state :=
  checked_keeps (.refl s) fun n _ => .grants n

theorem noticeStep_setNoticeEnable : NoticeStep s (runSetNoticeEnable r s).state :=
  checked_keeps (.refl s) fun kinds _ => .enables kinds

theorem noticeStep_softReset : NoticeStep s (runSoftReset r s).state := .resets rfl rfl

end

/-- A taking does to the Notice Queue what the execution of the request does: the Management Engine has none of it. -/
theorem noticeStep_take {mine : Byte → Bool} {run : Payload → State → Reply} (hrun : ∀ r u, NoticeStep u (run r u).state)
    (s : State) : NoticeStep s (s.take mine run) := by
  rcases take_cases s mine run with e | ⟨r, rest, -, -, -, ⟨-, e⟩ | ⟨x, -, e⟩⟩ <;> rw [e]
  · exact .refl s
  · exact hrun r (s.dequeue rest)
  · exact .of_same rfl

/-! ### Every command, and every step -/

/-- Every command has one of the five effects on the Notice Queue. -/
theorem exec_noticeStep {s t : State} {i : Instr} (e : exec i s = .next t) : NoticeStep s t := by
  have next : ∀ {u : State}, NoticeStep s u → (.next u : Host.Outcome State Fault Refusal) = .next t → NoticeStep s t := by
    rintro u hu ⟨⟩
    exact hu
  cases i with
  | arrival p cell => exact next (noticeStep_arrive s p cell) e
  | probeCompletion p cell => exact next (noticeStep_arrive s p cell).ite e
  | cycleBoundaryPromotion ev =>
    cases ev with
    | arrival p cell => exact next (noticeStep_arrive s p cell).ite e
    | slot p => exact next (noticeStep_egress s p).ite e
  | tick => exact next (noticeStep_tick s) e
  | calendarService => exact next (noticeStep_tick s).ite e
  | egressSlot p => exact next (noticeStep_egress s p) e
  | drainCompletion p => exact next (noticeStep_egress s p).ite e
  | lineOkAssertion p => exact next (noticeStep_assertLineOk s p) e
  | lineOkDeassertion p => exact next (noticeStep_deassertLineOk s p) e
  | resetAssertion => exact next (noticeStep_holdReset s) e
  | resetRelease first => exact next (noticeStep_releaseReset s first) e
  | sync => exact next (noticeStep_take (fun _ u => .refl u) s) e
  | readTime => exact next (noticeStep_take (fun _ u => .refl u) s) e
  | setTimebase =>
    exact next (noticeStep_take (fun _ u => checked_keeps (.refl u) fun _ _ => require_keeps (.refl u) fun _ => .of_same rfl) s) e
  | openFlow => exact next (noticeStep_take noticeStep_openFlow s) e
  | setContract => exact next (noticeStep_take noticeStep_setContract s) e
  | commitContract => exact next (noticeStep_take noticeStep_commitContract s) e
  | suspendFlow => exact next (noticeStep_take noticeStep_suspendFlow s) e
  | resumeFlow => exact next (noticeStep_take noticeStep_resumeFlow s) e
  | closeFlow => exact next (noticeStep_take noticeStep_closeFlow s) e
  | readFlow =>
    exact next (noticeStep_take (fun _ u => withFlow_keeps (.refl u) fun _ => checked_keeps (.refl u) fun _ _ => .refl u) s) e
  | prepareMap => exact next (noticeStep_take (fun _ u => checked_keeps (.refl u) fun _ _ => .of_same rfl) s) e
  | writeMap => exact next (noticeStep_take noticeStep_writeMap s) e
  | readMap => exact next (noticeStep_take noticeStep_readMap s) e
  | swapMap => exact next (noticeStep_take noticeStep_swapMap s) e
  | setWatermarks => exact next (noticeStep_take noticeStep_setWatermarks s) e
  | readPool => exact next (noticeStep_take (fun _ _ => .of_same rfl) s) e
  | readCounters => exact next (noticeStep_take noticeStep_readCounters s) e
  | startProbe => exact next (noticeStep_take noticeStep_startProbe s) e
  | readProbe => exact next (noticeStep_take (fun _ u => .refl u) s) e
  | grantNotices => exact next (noticeStep_take noticeStep_grantNotices s) e
  | setNoticeEnable => exact next (noticeStep_take noticeStep_setNoticeEnable s) e
  | softReset => exact next (noticeStep_take noticeStep_softReset s) e
  | unknownRequest => exact next (noticeStep_take (fun _ u => .refl u) s) e

/-- Every step has one of the five effects on the Notice Queue; a reference-clock period posts nothing. -/
theorem step_noticeStep {s t : State} (e : step s = .next t) : NoticeStep s t := by
  cases hp : s.pending with
  | nil =>
    obtain rfl := eq_of_next e (step_of_idle hp)
    exact noticeStep_clockPeriod s
  | cons c rest =>
    rw [step_of_queued hp] at e
    exact exec_noticeStep (s := { s with pending := rest }) e

/-- Settles O55: a step has one of five effects on the Notice Queue, and each of them keeps the law. -/
theorem noticeLawIsKept : Obligations.NoticeLawIsKept := fun _ _ h e => h.step (step_noticeStep e)

end Sys2Proof.Machine

namespace Sys2Proof.Machine

/-! ## The Arrival Probe -/

theorem Probe.watches_iff (p : Probe) (f : FlowNo) : p.watches f = true ↔ p.state = .armed ∧ p.flow = f := by
  simp [Probe.watches]

theorem Probe.completes_iff (p : Probe) : p.completes = true ↔ p.target ≤ p.entries.length + 1 :=
  decide_eq_true_iff

/-- The saturation of the interval, as a case split (R187 item 1). -/
theorem Probe.interval_eq (p : Probe) (now : Stamp) : p.interval now =
    if (now - p.lastStamp).toNat < 65535 then BitVec.ofNat 16 (now - p.lastStamp).toNat else 65535 := by
  unfold Probe.interval
  split_ifs with h
  · rw [min_eq_left h.le]
  · rw [min_eq_right (Nat.not_lt.mp h)]
    rfl

/-- A probe that is not ARMED on the flow captures nothing (R187). -/
theorem State.capture_of_not_watching {s : State} {f : FlowNo} (h : ¬ (s.probe.state = .armed ∧ s.probe.flow = f)) (v : Verdict)
    (o : Admission) : s.capture f v o = s :=
  if_neg (mt (s.probe.watches_iff f).mp h)

section
variable {s : State} {f : FlowNo} (ha : s.probe.state = .armed) (hf : s.probe.flow = f)
include ha hf

/-- A capture that leaves an entry wanting adds its entry and its stamp (R187 items 1 and 2). -/
theorem State.capture_of_wanting (hw : s.probe.entries.length + 1 < s.probe.target) (v : Verdict) (o : Admission) :
    s.capture f v o = { s with probe := { s.probe with
      lastStamp := s.now, entries := s.probe.entries ++ [⟨s.probe.interval s.now, v, o⟩] } } := by
  have hc : ¬ s.probe.completes = true := mt s.probe.completes_iff.mp (Nat.not_le.mpr hw)
  rw [State.capture, if_pos ((s.probe.watches_iff f).mpr ⟨ha, hf⟩)]
  dsimp only
  rw [if_neg hc, Probe.capture, if_neg hc]
  rfl

/-- The capture that reaches the target count makes the probe DONE as well, and posts PROBE_DONE (COMPLETE) (R187 item 3). -/
theorem State.capture_of_last (hl : s.probe.target ≤ s.probe.entries.length + 1) (v : Verdict) (o : Admission) :
    s.capture f v o = { s with
      probe := { s.probe with
        state := .done, lastStamp := s.now, entries := s.probe.entries ++ [⟨s.probe.interval s.now, v, o⟩] }
      notices := s.notices.post (.probeDone f) s.now .complete } := by
  have hc : s.probe.completes = true := s.probe.completes_iff.mpr hl
  rw [State.capture, if_pos ((s.probe.watches_iff f).mpr ⟨ha, hf⟩)]
  dsimp only
  rw [if_pos hc, Probe.capture, if_pos hc]
  rfl

end

/-- Settles O16: an admission leaves the probe and the time, so the capture that follows it is that of the probe as it stood. -/
theorem probeCapturesEachAdmission : Obligations.ProbeCapturesEachAdmission := by
  intro s f c u interval entry
  have hprobe : u.probe = s.probe := by simp [u]
  have hnow : u.now = s.now := by simp [u, State.now]
  have hentry : ⟨s.probe.interval s.now, (s.flow f).judge s.now, s.admission f c⟩ = entry := by
    rw [Probe.interval_eq]
    rfl
  refine ⟨fun h => ?_, fun ha hf hw => ?_, fun ha hf hl => ?_⟩
  · exact State.capture_of_not_watching (hprobe.symm ▸ h) _ _
  · rw [← hprobe] at ha hf hw
    refine (State.capture_of_wanting ha hf hw _ _).trans ?_
    rw [hprobe, hnow, hentry]
    rfl
  · rw [← hprobe] at ha hf hl
    refine (State.capture_of_last ha hf hl _ _).trans ?_
    rw [hprobe, hnow, hentry]
    rfl

/-! ### PROBE_COMPLETION -/

theorem exec_probeCompletion_of_completes {s : State} {p : Port} {cell : List Byte} (h : s.arrivalCompletesProbe p cell = true) :
    exec (.probeCompletion p cell) s = .next (s.arrive p cell) :=
  congrArg Host.Outcome.next (if_pos h)

theorem exec_probeCompletion_of_not {s : State} {p : Port} {cell : List Byte} (h : ¬ s.arrivalCompletesProbe p cell = true) :
    exec (.probeCompletion p cell) s = .next s :=
  congrArg Host.Outcome.next (if_neg h)

/-- The probe after an arrival whose capture reaches the target count. -/
theorem State.arrive_probe_of_last {s : State} {p : Port} {cell : List Byte} {f : FlowNo} {c : StoredCell}
    (h : HandsOver s p cell f c) (ha : s.probe.state = .armed) (hf : s.probe.flow = f)
    (hl : s.probe.target ≤ s.probe.entries.length + 1) : ∃ e, (s.arrive p cell).probe =
      { s.probe with state := .done, lastStamp := s.now, entries := s.probe.entries ++ [e] } := by
  have hcounted : (s.countPort p PortCounters.addReceived).probe = s.probe := by simp
  have hnow : (s.countPort p PortCounters.addReceived).time = s.time := by simp
  have hdeliver := (probeCapturesEachAdmission (s.countPort p PortCounters.addReceived) f c).2.2
  rw [hcounted, hnow] at hdeliver
  rw [State.arrive_eq_deliver h, hdeliver ha hf hl]
  exact ⟨_, rfl⟩

/-- Settles O17: the event takes place exactly where the arrival completes the probe, and is then that arrival. -/
theorem probeCompletionIsTheLastCapture : Obligations.ProbeCompletionIsTheLastCapture := by
  intro p cell s
  refine ⟨fun f c h ha hf hl => ?_, fun hd => exec_probeCompletion_of_not fun hcomp => ?_,
    fun hn => exec_probeCompletion_of_not fun hcomp => ?_⟩
  · have hexec := exec_probeCompletion_of_completes ((s.arrivalCompletesProbe_iff p cell).mpr ⟨f, c, h, ha, hf, hl⟩)
    obtain ⟨e, hprobe⟩ := State.arrive_probe_of_last h ha hf hl
    refine ⟨hexec.trans (exec_arrival p cell s).symm, _, hexec, ?_⟩
    rw [hprobe]
    exact ⟨rfl, hf, rfl, rfl, e, rfl⟩
  · obtain ⟨f, c, h, -⟩ := (s.arrivalCompletesProbe_iff p cell).mp hcomp
    exact nomatch hd.symm.trans h.up
  · obtain ⟨f, c, h, ha, hf, hl⟩ := (s.arrivalCompletesProbe_iff p cell).mp hcomp
    rcases hn f c h with hstate | hflow | hwanting
    · exact hstate ha
    · exact hflow hf
    · exact Nat.not_le.mpr hwanting hl

end Sys2Proof.Machine

namespace Sys2Proof.Machine

/-! ## The balance of a flow -/

/-- Accepted less Sent, Flushed and the number of cells queued, modulo 2^32 (R181). -/
def FlowCounters.balance (c : FlowCounters) (cells : Nat) : Counter :=
  c.accepted - c.sent - c.flushed - BitVec.ofNat 32 cells

/-- An enqueue counts the cell that joins (R76). -/
theorem FlowCounters.balance_addEnqueued (c : FlowCounters) (tagged : Bool) (cells : Nat) :
    (FlowCounters.addEnqueued tagged c).balance (cells + 1) = c.balance cells := by
  rw [FlowCounters.addEnqueued_eq]
  simp only [FlowCounters.balance, BitVec.ofNat_add]
  grind

/-- A departure counts the cell that leaves (R97). -/
theorem FlowCounters.balance_addSent (c : FlowCounters) (cells : Nat) : c.addSent.balance cells = c.balance (cells + 1) := by
  simp only [FlowCounters.balance, FlowCounters.addSent, BitVec.ofNat_add]
  grind

/-- A flush counts every cell that leaves (R36). -/
theorem FlowCounters.balance_addFlushed (c : FlowCounters) (cells : Nat) : (c.addFlushed cells).balance 0 = c.balance cells := by
  simp only [FlowCounters.balance, FlowCounters.addFlushed]
  grind

/-- The balance of flow `f`, of its counters and its queue. -/
def State.flowBalance (s : State) (f : FlowNo) : Counter :=
  (s.flowCounters f).balance (s.flow f).queue.length

/-- Every flow of `t` has the balance that it has in `s`. -/
structure SameBalance (s t : State) : Prop where
  balance : ∀ f, t.flowBalance f = s.flowBalance f

theorem SameBalance.refl (s : State) : SameBalance s s := ⟨fun _ => rfl⟩

theorem SameBalance.trans {s t u : State} (h : SameBalance s t) (k : SameBalance t u) : SameBalance s u :=
  ⟨fun f => (k.balance f).trans (h.balance f)⟩

/-- A row that names a part of an event is that event or nothing (log entry 5). -/
theorem SameBalance.ite {s t : State} {c : Bool} (h : SameBalance s t) : SameBalance s (if c then t else s) :=
  iteInduction (motive := SameBalance s) (fun _ => h) fun _ => .refl s

/-! ### What keeps every balance -/

theorem State.flowCounters_setFlowCounters (s : State) (f g : FlowNo) (c : FlowCounters) :
    (s.setFlowCounters f c).flowCounters g = if g = f then c else s.flowCounters g := by
  split_ifs with hg
  · rw [hg, State.flowCounters_setFlowCounters_self]
  · exact State.flowCounters_setFlowCounters_other _ _ _ _ hg

/-- Neither the counters of a flow nor its queue are touched. -/
theorem sameBalance_of_queues {s t : State} (hc : ∀ f, t.flowCounters f = s.flowCounters f)
    (hq : ∀ f, (t.flow f).queue = (s.flow f).queue) : SameBalance s t :=
  ⟨fun f => by rw [State.flowBalance, hc, hq, State.flowBalance]⟩

theorem sameBalance_of_queuesKept {s t : State} (hc : t.counters = s.counters) (hq : QueuesKept s t) : SameBalance s t :=
  sameBalance_of_queues (State.flowCounters_congr hc) fun f => (hq f).queue

theorem sameBalance_of_flows {s t : State} (hc : t.counters = s.counters) (hf : t.flows = s.flows) : SameBalance s t :=
  sameBalance_of_queuesKept hc (queuesKept_of_flows hf)

theorem sameBalance_countPort (s : State) (p : Port) (g : PortCounters → PortCounters) : SameBalance s (s.countPort p g) :=
  sameBalance_of_queues (fun f => s.flowCounters_setPortCounters f _ p) fun f =>
    congrArg FlowRecord.queue ((sameFlows_countPort s p g).flow f)

/-- One record is written, its queue kept. -/
theorem sameBalance_of_setFlow {s t : State} {f : FlowNo} {r : FlowRecord} (hc : t.counters = s.counters)
    (e : SameFlows (s.setFlow f r) t) (hr : r.queue = (s.flow f).queue) : SameBalance s t := by
  refine sameBalance_of_queues (State.flowCounters_congr hc) fun g => ?_
  rw [e.flow, State.flow_setFlow]
  split_ifs with hg
  · rw [hg, hr]
  · rfl

/-- The counters and the record of one flow are written, its balance kept. -/
theorem sameBalance_of_written {s t : State} {f : FlowNo} {c : FlowCounters} {r : FlowRecord}
    (hc : ∀ g, t.flowCounters g = if g = f then c else s.flowCounters g) (hf : ∀ g, t.flow g = if g = f then r else s.flow g)
    (hb : c.balance r.queue.length = s.flowBalance f) : SameBalance s t := by
  refine ⟨fun g => ?_⟩
  rw [State.flowBalance, hc, hf]
  split_ifs with hg
  · rw [hb, hg]
  · rfl

/-! ### Arrivals -/

/-- A discard is counted in none of the counters of the balance (R72 to R75). -/
theorem sameBalance_countDiscard (s : State) (f : FlowNo) {count : FlowCounters → FlowCounters}
    (h : ∀ c n, (count c).balance n = c.balance n) : SameBalance s (s.countFlow f count) := by
  refine ⟨fun g => ?_⟩
  rw [State.flowBalance, State.countFlow, State.flowCounters_setFlowCounters]
  split_ifs with hg
  · rw [h, hg]
    rfl
  · rfl

theorem sameBalance_enqueue {s : State} {slot : SlotNo} {rest : List SlotNo} (h : s.buffer.freeList = slot :: rest) (f : FlowNo)
    (c : StoredCell) : SameBalance s (s.enqueue f c) := by
  have hcounters (g : FlowNo) := (State.flowCounters_congr (State.enqueue_counters h f c) g).trans
    (s.flowCounters_setFlowCounters f g _)
  refine sameBalance_of_written hcounters (State.flow_of_flows_set (State.enqueue_flows h f c)) ?_
  have hqueue : ((s.flow f).enqueued s.now slot).queue = (s.flow f).queue ++ [slot] :=
    (FlowRecord.sameCells_enqueued _ _ _).queue
  rw [hqueue, List.length_append, List.length_singleton, FlowCounters.balance_addEnqueued]
  rfl

theorem sameBalance_admitCell (s : State) (f : FlowNo) (c : StoredCell) : SameBalance s (s.admitCell f c) := by
  have dropped : SameBalance s (s.countFlow f FlowCounters.addDropped) := sameBalance_countDiscard s f fun _ _ => rfl
  unfold State.admitCell
  cases ha : s.admission f c with
  | discardedPolice => exact sameBalance_countDiscard s f fun _ _ => rfl
  | discardedShed => exact dropped
  | discardedQueue => exact dropped.trans (sameBalance_of_flows rfl rfl)
  | discardedPool => exact dropped.trans (sameBalance_of_flows rfl rfl)
  | queued =>
    obtain ⟨slot, rest, hfree⟩ := List.exists_cons_of_ne_nil (State.freeList_of_queued ha)
    exact sameBalance_enqueue hfree f c

theorem sameBalance_offerRequest (s : State) (r : Payload) : SameBalance s (s.offerRequest r) := by
  unfold State.offerRequest
  split_ifs
  · exact sameBalance_of_flows rfl rfl
  · exact sameBalance_countPort _ _ _

theorem sameBalance_receive (s : State) (p : Port) (c : Cell) : SameBalance s (s.receive p c) := by
  have counted := sameBalance_countPort s p
  have received := counted PortCounters.addReceived
  unfold State.receive
  split_ifs
  · dsimp only
    cases classify p c with
    | idle => exact .refl s
    | misdirected => exact received.trans (sameBalance_countPort _ _ _)
    | request => exact received.trans (sameBalance_offerRequest _ _)
    | user ch de =>
      dsimp only
      cases s.lookup p ch with
      | none => exact received.trans (sameBalance_countPort _ _ _)
      | some f =>
        have admitted := received.trans (sameBalance_admitCell _ f (c.stored de))
        exact admitted.trans (sameBalance_of_flows (by simp [State.deliver]) (by simp [State.deliver]))
  · exact (counted _).trans (sameBalance_of_flows rfl rfl)

theorem sameBalance_arrive (s : State) (p : Port) (cell : List Byte) : SameBalance s (s.arrive p cell) := by
  unfold State.arrive
  split_ifs
  · exact sameBalance_receive s p _
  · exact .refl s

/-! ### Slots -/

theorem sameBalance_sendHead {s : State} {f : FlowNo} {slot : SlotNo} {rest : List SlotNo}
    (hq : (s.flow f).queue = slot :: rest) (p : Port) (q : Priority) : SameBalance s (s.sendHead p q f slot rest) := by
  have hcounters (g : FlowNo) : (s.sendHead p q f slot rest).flowCounters g =
      if g = f then (s.flowCounters f).addSent else s.flowCounters g := by
    rw [State.flowCounters_congr (s.sendHead_counters p q f slot rest), State.flowCounters_setPortCounters,
      State.flowCounters_setFlowCounters]
  have hflows (g : FlowNo) : (s.sendHead p q f slot rest).flow g =
      if g = f then { s.flow f with queue := rest } else s.flow g := by
    refine State.flow_of_flows_set ?_ g
    rw [(sameFlows_sendHead s p q f slot rest).flows, State.setFlow_flows, State.setReadyList_flows]
  refine sameBalance_of_written hcounters hflows ?_
  rw [FlowCounters.balance_addSent, State.flowBalance, hq, List.length_cons]

theorem sameBalance_afterDeparture (s : State) (f : FlowNo) : SameBalance s (s.afterDeparture f) := by
  unfold State.afterDeparture
  split_ifs
  · exact sameBalance_of_setFlow rfl (sameFlows_finishDrain s f) rfl
  · exact sameBalance_of_queuesKept (by simp) (queuesKept_place s f)

theorem sameBalance_depart (s : State) (p : Port) (q : Priority) (f : FlowNo) : SameBalance s (s.depart p q f) := by
  cases hq : (s.flow f).queue with
  | nil => exact sameBalance_of_flows (by simp [State.depart, hq]) (by simp [State.depart, hq])
  | cons slot rest =>
    rw [State.depart_eq_sendHead hq]
    have updated := (sameBalance_sendHead hq p q).trans
      (sameBalance_of_queuesKept (by simp) (queuesKept_departureArithmetic _ f))
    exact updated.trans (sameBalance_afterDeparture _ f)

theorem sameBalance_egress (s : State) (p : Port) : SameBalance s (s.egress p) := by
  have sent (u : State) (hc : u.counters = s.counters) (hf : u.flows = s.flows) :
      SameBalance s (u.countPort .T PortCounters.addSent) :=
    (sameBalance_of_flows hc hf).trans (sameBalance_countPort u _ _)
  unfold State.egress State.openSlot
  split_ifs
  · cases s.slotChoice p with
    | response x rest => exact sent _ (by simp) (by simp)
    | notice r => exact sent _ (by simp) (by simp)
    | departure q f => exact sameBalance_depart s p q f
    | idle => exact sameBalance_of_flows (by simp) (by simp)
  · exact .refl s

/-! ### Time and links -/

theorem sameBalance_tick (s : State) : SameBalance s s.tick :=
  sameBalance_of_queuesKept (by simp) (queuesKept_tick s)

theorem sameBalance_releaseReset (s : State) (first : Port) : SameBalance s (s.releaseReset first) := by
  unfold State.releaseReset
  split_ifs
  · exact sameBalance_of_flows (by simp) (by simp)
  · exact .refl s

/-! ### The requests -/

section
variable (r : Payload) (s : State)

theorem sameBalance_setTimebase : SameBalance s (runSetTimebase r s).state :=
  checked_keeps (.refl s) fun _ _ => require_keeps (.refl s) fun _ => sameBalance_of_flows rfl rfl

theorem sameBalance_setContract : SameBalance s (runSetContract r s).state := by
  refine withFlow_keeps (.refl s) fun f => require_keeps (.refl s) fun _ => checked_keeps (.refl s) fun c _ =>
    sameBalance_of_queuesKept ?_ (queuesKept_setContract s f c)
  unfold State.setContract
  dsimp only
  split_ifs <;> simp [okReply, acceptReply]

theorem sameBalance_commitContract : SameBalance s (runCommitContract r s).state :=
  withFlow_keeps (.refl s) fun f => require_keeps (.refl s) fun _ => require_keeps (.refl s) fun _ =>
    sameBalance_of_queuesKept (by simp [okReply]) (queuesKept_promoteNow s f)

theorem sameBalance_suspendFlow : SameBalance s (runSuspendFlow r s).state :=
  withFlow_keeps (.refl s) fun _ => require_keeps (.refl s) fun ho =>
    sameBalance_of_queuesKept (by simp [okReply]) (queuesKept_suspend (of_decide_eq_true ho))

theorem sameBalance_resumeFlow : SameBalance s (runResumeFlow r s).state := by
  refine withFlow_keeps (.refl s) fun f => checked_keeps (.refl s) fun restart _ => require_keeps (.refl s) fun hs => ?_
  dsimp only [okReply]
  rw [s.resume_eq f restart]
  exact sameBalance_of_queuesKept (by simp [State.resume]) (queuesKept_resume (of_decide_eq_true hs) restart)

/-- A DRAIN lets the flow keep its cells (R33, R34). -/
theorem sameBalance_closeDrain (f : FlowNo) : SameBalance s (s.closeDrain f).state := by
  unfold State.closeDrain
  cases (s.flow f).lifecycle with
  | opened =>
    dsimp only
    split_ifs
    · exact sameBalance_of_setFlow (by simp [okReply]) (sameFlows_closeEmpty s f) rfl
    · exact sameBalance_of_setFlow (by simp [acceptReply]) (sameFlows_startDrain s f) rfl
  | unused => exact .refl s
  | suspended => exact .refl s
  | draining => exact .refl s

theorem sameBalance_flush (f : FlowNo) : SameBalance s (s.flush f) := by
  have hcounters (g : FlowNo) : (s.flush f).flowCounters g =
      if g = f then (s.flowCounters f).addFlushed (s.flow f).queue.length else s.flowCounters g := by
    have hflushed := (congrArg State.counters (s.flush_does f)).trans (s.emptied_counters f)
    exact (State.flowCounters_congr hflushed g).trans (s.flowCounters_setFlowCounters f g _)
  have hflows (g : FlowNo) : (s.flush f).flow g = if g = f then (s.flow f).flushed else s.flow g := by
    rw [(sameFlows_flush s f).flow, State.flow_setFlow, State.unschedule_flow]
  exact sameBalance_of_written hcounters hflows (FlowCounters.balance_addFlushed _ _)

theorem sameBalance_closeFlow : SameBalance s (runCloseFlow r s).state := by
  refine withFlow_keeps (.refl s) fun f => checked_keeps (.refl s) fun flush _ => require_keeps (.refl s) fun _ => ?_
  cases flush with
  | false => exact sameBalance_closeDrain s f
  | true =>
    by_cases hl : (s.flow f).lifecycle = .unused
    · rw [if_pos rfl, State.closeFlush, hl]
      exact .refl s
    · rw [if_pos rfl, State.closeFlush_of_used hl]
      exact sameBalance_flush s f

theorem sameBalance_writeMap : SameBalance s (runWriteMap r s).state :=
  checked_keeps (.refl s) fun _ _ => checked_keeps (.refl s) fun _ _ => checked_keeps (.refl s) fun _ _ =>
    require_keeps (.refl s) fun _ => checked_keeps (.refl s) fun _ _ => sameBalance_of_flows rfl rfl

theorem sameBalance_readMap : SameBalance s (runReadMap r s).state :=
  checked_keeps (.refl s) fun _ _ => checked_keeps (.refl s) fun _ _ => checked_keeps (.refl s) fun _ _ =>
    checked_keeps (.refl s) fun _ _ => require_keeps (.refl s) fun _ => .refl s

theorem sameBalance_swapMap : SameBalance s (runSwapMap r s).state := by
  unfold runSwapMap
  split
  · exact .refl s
  · exact sameBalance_of_flows rfl rfl

theorem sameBalance_setWatermarks : SameBalance s (runSetWatermarks r s).state :=
  checked_keeps (.refl s) fun _ _ => require_keeps (.refl s) fun _ =>
    sameBalance_of_flows (by simp [okReply]) (by simp [okReply])

theorem sameBalance_startProbe : SameBalance s (runStartProbe r s).state := by
  refine checked_keeps (.refl s) fun n _ => ?_
  split_ifs
  · exact sameBalance_of_flows (by simp [okReply]) (by simp [okReply])
  · exact withFlow_keeps (.refl s) fun _ => require_keeps (.refl s) fun _ => require_keeps (.refl s) fun _ =>
      sameBalance_of_flows rfl rfl

end

/-- A taking does to the balances what the execution of the request does: the Management Engine has no part of them. -/
theorem sameBalance_take {mine : Byte → Bool} {run : Payload → State → Reply} (hrun : ∀ r u, SameBalance u (run r u).state)
    (s : State) : SameBalance s (s.take mine run) := by
  rcases take_cases s mine run with e | ⟨r, rest, -, -, -, ⟨-, e⟩ | ⟨x, -, e⟩⟩ <;> rw [e]
  · exact .refl s
  · have dequeued : SameBalance s (s.dequeue rest) := sameBalance_of_flows rfl rfl
    exact (dequeued.trans (hrun r _)).trans (sameBalance_of_flows rfl rfl)
  · exact sameBalance_of_flows rfl rfl

/-! ### Every command -/

/-- A command that zeroes flow counters: OPEN_FLOW, READ_COUNTERS, and the two resets (R27, R183, R184). -/
def ZeroesCounters (i : Instr) : Prop :=
  i = .openFlow ∨ i = .readCounters ∨ i = .softReset ∨ i = .resetAssertion

theorem exec_sameBalance {s t : State} {i : Instr} (hi : ¬ ZeroesCounters i) (e : exec i s = .next t) : SameBalance s t := by
  have next : ∀ {u : State}, SameBalance s u → (.next u : Host.Outcome State Fault Refusal) = .next t → SameBalance s t := by
    rintro u hu ⟨⟩
    exact hu
  cases i with
  | arrival p cell => exact next (sameBalance_arrive s p cell) e
  | probeCompletion p cell => exact next (sameBalance_arrive s p cell).ite e
  | cycleBoundaryPromotion ev =>
    cases ev with
    | arrival p cell => exact next (sameBalance_arrive s p cell).ite e
    | slot p => exact next (sameBalance_egress s p).ite e
  | tick => exact next (sameBalance_tick s) e
  | calendarService => exact next (sameBalance_tick s).ite e
  | egressSlot p => exact next (sameBalance_egress s p) e
  | drainCompletion p => exact next (sameBalance_egress s p).ite e
  | lineOkAssertion p => exact next (sameBalance_of_flows (by simp) (by simp)) e
  | lineOkDeassertion p => exact next (sameBalance_of_flows (by simp) (by simp)) e
  | resetAssertion => exact absurd (.inr (.inr (.inr rfl))) hi
  | resetRelease first => exact next (sameBalance_releaseReset s first) e
  | sync => exact next (sameBalance_take (fun _ u => .refl u) s) e
  | readTime => exact next (sameBalance_take (fun _ u => .refl u) s) e
  | setTimebase => exact next (sameBalance_take sameBalance_setTimebase s) e
  | openFlow => exact absurd (.inl rfl) hi
  | setContract => exact next (sameBalance_take sameBalance_setContract s) e
  | commitContract => exact next (sameBalance_take sameBalance_commitContract s) e
  | suspendFlow => exact next (sameBalance_take sameBalance_suspendFlow s) e
  | resumeFlow => exact next (sameBalance_take sameBalance_resumeFlow s) e
  | closeFlow => exact next (sameBalance_take sameBalance_closeFlow s) e
  | readFlow =>
    exact next (sameBalance_take (fun _ u => withFlow_keeps (.refl u) fun _ => checked_keeps (.refl u) fun _ _ => .refl u) s) e
  | prepareMap =>
    exact next (sameBalance_take (fun _ u => checked_keeps (.refl u) fun _ _ => sameBalance_of_flows rfl rfl) s) e
  | writeMap => exact next (sameBalance_take sameBalance_writeMap s) e
  | readMap => exact next (sameBalance_take sameBalance_readMap s) e
  | swapMap => exact next (sameBalance_take sameBalance_swapMap s) e
  | setWatermarks => exact next (sameBalance_take sameBalance_setWatermarks s) e
  | readPool => exact next (sameBalance_take (fun _ _ => sameBalance_of_flows rfl rfl) s) e
  | readCounters => exact absurd (.inr (.inl rfl)) hi
  | startProbe => exact next (sameBalance_take sameBalance_startProbe s) e
  | readProbe => exact next (sameBalance_take (fun _ u => .refl u) s) e
  | grantNotices =>
    exact next (sameBalance_take (fun _ u => checked_keeps (.refl u) fun _ _ => sameBalance_of_flows rfl rfl) s) e
  | setNoticeEnable =>
    exact next (sameBalance_take (fun _ u => checked_keeps (.refl u) fun _ _ => sameBalance_of_flows rfl rfl) s) e
  | softReset => exact absurd (.inr (.inr (.inl rfl))) hi
  | unknownRequest => exact next (sameBalance_take (fun _ u => .refl u) s) e

/-- Settles O4: each effect that moves a cell into or out of a queue counts it, and no other effect touches either. -/
theorem flowBalanceIsKept : Obligations.FlowBalanceIsKept := by
  intro i s t f hopen hread hsoft hassert e
  have hi : ¬ ZeroesCounters i := not_or.mpr ⟨hopen, not_or.mpr ⟨hread, not_or.mpr ⟨hsoft, hassert⟩⟩⟩
  exact (exec_sameBalance hi e).balance f

end Sys2Proof.Machine

namespace Sys2Proof.Machine

/-! ## Every command answers a next state and keeps the waiting commands -/

/-- `t` has the commands waiting that `s` has (log entry 16). -/
structure SameCommands (s t : State) : Prop where
  pending : t.pending = s.pending

theorem SameCommands.refl (s : State) : SameCommands s s := ⟨rfl⟩

/-- An event that takes place only where `c` holds (log entry 5). -/
theorem SameCommands.ite {s t : State} {c : Bool} (h : SameCommands s t) : SameCommands s (if c then t else s) :=
  iteInduction (fun _ => h) fun _ => .refl s

/-! ### The requests -/

section
variable (r : Payload) (s : State)

theorem sameCommands_setTimebase : SameCommands s (runSetTimebase r s).state :=
  checked_keeps (.refl s) fun _ _ => require_keeps (.refl s) fun _ => ⟨rfl⟩

theorem sameCommands_openFlow : SameCommands s (runOpenFlow r s).state :=
  withFlow_keeps (.refl s) fun _ => checked_keeps (.refl s) fun _ _ => checked_keeps (.refl s) fun _ _ =>
    checked_keeps (.refl s) fun _ _ => checked_keeps (.refl s) fun _ _ => checked_keeps (.refl s) fun _ _ =>
      require_keeps (.refl s) fun _ => ⟨rfl⟩

/-- A contract is stored, and promoted at once when k is 0 (R14). -/
theorem sameCommands_setContract : SameCommands s (runSetContract r s).state := by
  refine withFlow_keeps (.refl s) fun f => require_keeps (.refl s) fun _ => checked_keeps (.refl s) fun c _ => ⟨?_⟩
  unfold State.setContract
  dsimp only
  split_ifs <;> simp [okReply, acceptReply]

theorem sameCommands_commitContract : SameCommands s (runCommitContract r s).state :=
  withFlow_keeps (.refl s) fun _ => require_keeps (.refl s) fun _ => require_keeps (.refl s) fun _ => ⟨by simp [okReply]⟩

theorem sameCommands_suspendFlow : SameCommands s (runSuspendFlow r s).state :=
  withFlow_keeps (.refl s) fun _ => require_keeps (.refl s) fun _ => ⟨by simp [okReply]⟩

theorem sameCommands_resumeFlow : SameCommands s (runResumeFlow r s).state := by
  refine withFlow_keeps (.refl s) fun f => checked_keeps (.refl s) fun restart _ => require_keeps (.refl s) fun _ => ⟨?_⟩
  cases restart <;> simp [okReply]

theorem sameCommands_closeDrain (f : FlowNo) : SameCommands s (s.closeDrain f).state := by
  unfold State.closeDrain
  cases (s.flow f).lifecycle with
  | opened =>
    dsimp only
    split_ifs <;> exact ⟨by simp [okReply, acceptReply]⟩
  | unused => exact .refl s
  | suspended => exact .refl s
  | draining => exact .refl s

theorem sameCommands_closeFlush (f : FlowNo) : SameCommands s (s.closeFlush f).state := by
  by_cases hl : (s.flow f).lifecycle = .unused
  · rw [State.closeFlush, hl]
    exact .refl s
  · rw [State.closeFlush_of_used hl]
    exact ⟨by simp [okReply]⟩

theorem sameCommands_closeFlow : SameCommands s (runCloseFlow r s).state := by
  refine withFlow_keeps (.refl s) fun f => checked_keeps (.refl s) fun flush _ => require_keeps (.refl s) fun _ => ?_
  cases flush with
  | false => exact sameCommands_closeDrain s f
  | true => exact sameCommands_closeFlush s f

theorem sameCommands_readFlow : SameCommands s (runReadFlow r s).state :=
  withFlow_keeps (.refl s) fun _ => checked_keeps (.refl s) fun _ _ => .refl s

theorem sameCommands_prepareMap : SameCommands s (runPrepareMap r s).state :=
  checked_keeps (.refl s) fun _ _ => ⟨rfl⟩

theorem sameCommands_writeMap : SameCommands s (runWriteMap r s).state :=
  checked_keeps (.refl s) fun _ _ => checked_keeps (.refl s) fun _ _ => checked_keeps (.refl s) fun _ _ =>
    require_keeps (.refl s) fun _ => checked_keeps (.refl s) fun _ _ => ⟨rfl⟩

theorem sameCommands_readMap : SameCommands s (runReadMap r s).state :=
  checked_keeps (.refl s) fun _ _ => checked_keeps (.refl s) fun _ _ => checked_keeps (.refl s) fun _ _ =>
    checked_keeps (.refl s) fun _ _ => require_keeps (.refl s) fun _ => .refl s

theorem sameCommands_swapMap : SameCommands s (runSwapMap r s).state := by
  unfold runSwapMap
  split
  · exact .refl s
  · exact ⟨rfl⟩

theorem sameCommands_setWatermarks : SameCommands s (runSetWatermarks r s).state :=
  checked_keeps (.refl s) fun _ _ => require_keeps (.refl s) fun _ => ⟨by simp [okReply]⟩

/-- The target of a READ_COUNTERS is a port or a flow, and its counters may be cleared (R159, R184). -/
theorem sameCommands_readCounters : SameCommands s (runReadCounters r s).state := by
  refine checked_keeps (.refl s) fun port _ => ?_
  cases port with
  | true =>
    refine checked_keeps (.refl s) fun p _ => checked_keeps (.refl s) fun clear _ => ⟨?_⟩
    cases clear <;> simp [State.readPortCounters, okReply]
  | false =>
    refine withFlow_keeps (.refl s) fun f => checked_keeps (.refl s) fun clear _ => ⟨?_⟩
    cases clear <;> simp [State.readFlowCounters, okReply]

theorem sameCommands_startProbe : SameCommands s (runStartProbe r s).state := by
  refine checked_keeps (.refl s) fun n _ => ?_
  split_ifs
  · exact ⟨by simp [okReply]⟩
  · exact withFlow_keeps (.refl s) fun f => require_keeps (.refl s) fun _ => require_keeps (.refl s) fun _ => ⟨rfl⟩

theorem sameCommands_grantNotices : SameCommands s (runGrantNotices r s).state :=
  checked_keeps (.refl s) fun _ _ => ⟨rfl⟩

theorem sameCommands_setNoticeEnable : SameCommands s (runSetNoticeEnable r s).state :=
  checked_keeps (.refl s) fun _ _ => ⟨rfl⟩

end

/-- A taking keeps the commands when the execution of the request does: the Management Engine holds none of them. -/
theorem sameCommands_take {mine : Byte → Bool} {run : Payload → State → Reply} (hrun : ∀ r u, SameCommands u (run r u).state)
    (s : State) : SameCommands s (s.take mine run) := by
  rcases take_cases s mine run with e | ⟨r, rest, -, -, -, ⟨-, e⟩ | ⟨x, -, e⟩⟩ <;> rw [e]
  · exact .refl s
  · exact ⟨(hrun r (s.dequeue rest)).pending⟩
  · exact ⟨rfl⟩

/-! ### The events -/

theorem sameCommands_arrive (s : State) (p : Port) (cell : List Byte) : SameCommands s (s.arrive p cell) := ⟨by simp⟩

theorem sameCommands_egress (s : State) (p : Port) : SameCommands s (s.egress p) := ⟨by simp⟩

theorem sameCommands_tick (s : State) : SameCommands s s.tick := ⟨by simp⟩

theorem sameCommands_releaseReset (s : State) (first : Port) : SameCommands s (s.releaseReset first) := by
  unfold State.releaseReset
  split_ifs
  · exact ⟨by simp⟩
  · exact .refl s

/-! ### Every command -/

/-- The outcome is a next state, with the commands waiting that `s` has. -/
def AnswersKeeping (s : State) (o : Host.Outcome State Fault Refusal) : Prop :=
  ∃ t, o = .next t ∧ t.pending = s.pending

theorem SameCommands.answers {s t : State} (h : SameCommands s t) : AnswersKeeping s (.next t) :=
  ⟨t, rfl, h.pending⟩

/-- A request row answers the taking of its request. -/
theorem answersKeeping_takeRequest {code : Byte} {run : Payload → State → Reply}
    (hrun : ∀ r u, SameCommands u (run r u).state) (s : State) : AnswersKeeping s (takeRequest code run s) :=
  (sameCommands_take hrun s).answers

theorem exec_answersKeeping (i : Instr) (s : State) : AnswersKeeping s (exec i s) := by
  cases i with
  | arrival p cell => exact (sameCommands_arrive s p cell).answers
  | probeCompletion p cell => exact (sameCommands_arrive s p cell).ite.answers
  | cycleBoundaryPromotion ev =>
    cases ev with
    | arrival p cell => exact (sameCommands_arrive s p cell).ite.answers
    | slot p => exact (sameCommands_egress s p).ite.answers
  | tick => exact (sameCommands_tick s).answers
  | calendarService => exact (sameCommands_tick s).ite.answers
  | egressSlot p => exact (sameCommands_egress s p).answers
  | drainCompletion p => exact (sameCommands_egress s p).ite.answers
  | lineOkAssertion p => exact SameCommands.answers ⟨by simp⟩
  | lineOkDeassertion p => exact SameCommands.answers ⟨by simp⟩
  | resetAssertion => exact SameCommands.answers ⟨rfl⟩
  | resetRelease first => exact (sameCommands_releaseReset s first).answers
  | sync => exact answersKeeping_takeRequest (fun _ u => .refl u) s
  | readTime => exact answersKeeping_takeRequest (fun _ u => .refl u) s
  | setTimebase => exact answersKeeping_takeRequest sameCommands_setTimebase s
  | openFlow => exact answersKeeping_takeRequest sameCommands_openFlow s
  | setContract => exact answersKeeping_takeRequest sameCommands_setContract s
  | commitContract => exact answersKeeping_takeRequest sameCommands_commitContract s
  | suspendFlow => exact answersKeeping_takeRequest sameCommands_suspendFlow s
  | resumeFlow => exact answersKeeping_takeRequest sameCommands_resumeFlow s
  | closeFlow => exact answersKeeping_takeRequest sameCommands_closeFlow s
  | readFlow => exact answersKeeping_takeRequest sameCommands_readFlow s
  | prepareMap => exact answersKeeping_takeRequest sameCommands_prepareMap s
  | writeMap => exact answersKeeping_takeRequest sameCommands_writeMap s
  | readMap => exact answersKeeping_takeRequest sameCommands_readMap s
  | swapMap => exact answersKeeping_takeRequest sameCommands_swapMap s
  | setWatermarks => exact answersKeeping_takeRequest sameCommands_setWatermarks s
  | readPool => exact answersKeeping_takeRequest (fun _ _ => ⟨rfl⟩) s
  | readCounters => exact answersKeeping_takeRequest sameCommands_readCounters s
  | startProbe => exact answersKeeping_takeRequest sameCommands_startProbe s
  | readProbe => exact answersKeeping_takeRequest (fun _ u => .refl u) s
  | grantNotices => exact answersKeeping_takeRequest sameCommands_grantNotices s
  | setNoticeEnable => exact answersKeeping_takeRequest sameCommands_setNoticeEnable s
  | softReset => exact answersKeeping_takeRequest (fun _ _ => ⟨rfl⟩) s
  | unknownRequest => exact (sameCommands_take (fun _ u => .refl u) s).answers

/-- Settles O3: each row answers its event or the taking of its request, and none of these touches the waiting commands. -/
theorem everyCommandAnswersANextState : Obligations.EveryCommandAnswersANextState := exec_answersKeeping

end Sys2Proof.Machine

namespace Sys2Proof.Machine

/-! ## The bytes of a request (R193) -/

theorem requestByte_eq (r : Payload) {n : Nat} (h : n < 28) : requestByte r n = r[n] := by
  simp [requestByte, List.getD_eq_getElem?_getD, h]

/-- A two-byte field has its high byte first (R192). -/
theorem param2_toNat (r : Payload) (n : Nat) : (param2 r n).toNat = (param r n).toNat * 256 + (param r (n + 1)).toNat := by
  rw [param2, BitVec.toNat_append, ← Nat.shiftLeft_add_eq_or_of_lt (param r (n + 1)).isLt, Nat.shiftLeft_eq]

/-! ## Numbers (R141, R196) -/

section
variable {n m : Nat}

/-- The check of a number against the size of its range finds that number and no other. -/
theorem dite_lt_eq_some_iff {a : Fin m} : (if h : n < m then some (⟨n, h⟩ : Fin m) else none) = some a ↔ n = a.val := by
  simp only [Option.dite_none_right_eq_some, Option.some.injEq, Fin.ext_iff]
  exact ⟨fun ⟨_, h⟩ => h, fun h => ⟨h ▸ a.isLt, h⟩⟩

theorem dite_lt_eq_none_iff : (if h : n < m then some (⟨n, h⟩ : Fin m) else none) = none ↔ m ≤ n := by
  simp
end

theorem flowOf_eq_some_iff (w : BitVec 16) (f : FlowNo) : flowOf w = some f ↔ w.toNat = f.val := dite_lt_eq_some_iff

theorem flowOf_eq_none_iff (w : BitVec 16) : flowOf w = none ↔ 255 < w.toNat := dite_lt_eq_none_iff

theorem channelOf_eq_some_iff (w : BitVec 16) (c : UserChannel) : channelOf w = some c ↔ w.toNat = c.val := dite_lt_eq_some_iff

theorem channelOf_eq_none_iff (w : BitVec 16) : channelOf w = none ↔ 1022 < w.toNat := dite_lt_eq_none_iff

theorem priorityOf_eq_some_iff (b : Byte) (q : Priority) : priorityOf b = some q ↔ b.toNat = q.val := dite_lt_eq_some_iff

theorem priorityOf_eq_none_iff (b : Byte) : priorityOf b = none ↔ 7 < b.toNat := dite_lt_eq_none_iff

/-! ## Contracts (R2) -/

/-- A contract is read exactly from the bytes that give its five fields, when these pass the validation of R2. -/
theorem contractOf_eq_some_iff (r : Payload) (n : Nat) (c : Contract) : contractOf r n = some c ↔
    modeOf (param r n) = some c.mode ∧ param2 r (n + 1) = c.period ∧ (param r (n + 3)).toNat = c.cycle ∧
      (param r (n + 4)).toNat = c.extension ∧ param2 r (n + 5) = c.tolerance ∧
      2 ≤ c.period.toNat ∧ 1 ≤ c.cycle ∧ c.cycle ≤ 16 ∧ c.extension < c.cycle := by
  rw [← Contract.legal_iff]
  unfold contractOf
  cases modeOf (param r n) with
  | none => simp
  | some m =>
    obtain ⟨mode, period, cycle, extension, tolerance⟩ := c
    simp only [Option.ite_none_right_eq_some, Option.some.injEq, Contract.mk.injEq]
    constructor
    · rintro ⟨hl, rfl, rfl, rfl, rfl, rfl⟩
      exact ⟨rfl, rfl, rfl, rfl, rfl, hl⟩
    · rintro ⟨rfl, rfl, rfl, rfl, rfl, hl⟩
      exact ⟨hl, rfl, rfl, rfl, rfl, rfl⟩

/-! ## Options and enumerations (R193, R196) -/

/-- A code names nothing exactly when it is neither the first that is listed nor one of the others. -/
theorem ite_some_eq_none_iff {α : Type} {c : Prop} [Decidable c] {a : α} {o : Option α} :
    (if c then some a else o) = none ↔ ¬ c ∧ o = none := by
  by_cases h : c <;> simp [h]

theorem portOf_eq_none_iff (b : Byte) : portOf b = none ↔ 1 < b.toNat := by
  simp only [portOf, ite_some_eq_none_iff, and_true]
  bv_omega

theorem modeOf_eq_none_iff (b : Byte) : modeOf b = none ↔ 3 < b.toNat := by
  simp only [modeOf, ite_some_eq_none_iff, and_true]
  bv_omega

theorem optionOf_eq_none_iff (b : Byte) : optionOf b = none ↔ 1 < b.toNat := by
  simp only [optionOf, ite_some_eq_none_iff, and_true]
  bv_omega

theorem viewOf_eq_none_iff (b : Byte) : viewOf b = none ↔ 2 < b.toNat := by
  simp only [viewOf, ite_some_eq_none_iff, and_true]
  bv_omega

/-- SHED_BELOW takes its class from the second byte (R157). -/
theorem actionOf_two (c : Byte) : actionOf 2 c = (priorityOf c).map .shedBelow := rfl

theorem actionOf_shedBelow_iff (c : Byte) (q : Priority) : actionOf 2 c = some (.shedBelow q) ↔ c.toNat = q.val := by
  rw [actionOf_two, Option.map_eq_some_iff]
  simp [priorityOf_eq_some_iff]

/-- The class is looked at beside SHED_BELOW alone (R157, R196). -/
theorem actionOf_eq_none_iff (b c : Byte) : actionOf b c = none ↔ 2 < b.toNat ∨ (b = 2 ∧ 7 < c.toNat) := by
  by_cases hb : b = 2
  · subst hb
    rw [actionOf_two, Option.map_eq_none_iff, priorityOf_eq_none_iff]
    simp
  · simp only [actionOf, if_neg hb, ite_some_eq_none_iff, and_true]
    bv_omega

/-! ## Map values and masks (R195, R196) -/

theorem mapValueOf_of_ne {w : BitVec 16} (h : w ≠ 0xFFFF) : mapValueOf w = (flowOf w).map some := if_neg h

/-- The code of NONE is no flow number. -/
theorem mapValueOf_eq_flow_iff (w : BitVec 16) (f : FlowNo) : mapValueOf w = some (some f) ↔ w.toNat = f.val := by
  by_cases h : w = 0xFFFF
  · subst h
    exact iff_of_false (fun e => nomatch e) (Nat.ne_of_gt (f.isLt.trans (by decide)))
  · simp [mapValueOf_of_ne h, flowOf_eq_some_iff]

theorem mapValueOf_eq_none_iff (w : BitVec 16) : mapValueOf w = none ↔ 255 < w.toNat ∧ w.toNat < 65535 := by
  by_cases h : w = 0xFFFF
  · subst h
    decide
  · rw [mapValueOf_of_ne h, Option.map_eq_none_iff, flowOf_eq_none_iff]
    bv_omega

theorem maskOf_eq_none_iff (w : BitVec 16) : maskOf w = none ↔ 2047 < w.toNat := by
  rw [maskOf, ite_eq_right_iff, high_bits_eq_zero_iff]
  simp

theorem maskOf_eq_some_iff (w : BitVec 16) (m : BitVec 11) : maskOf w = some m ↔ w = m.setWidth 16 := by
  rcases Nat.lt_or_ge 2047 w.toNat with h | h
  · simp only [maskOf_of_gt h, reduceCtorEq, false_iff]
    bv_omega
  · rw [maskOf_of_le h, Option.some.injEq]
    bv_omega

/-! ## What the part sends (R192) -/

theorem extractLsb'_eq_byteOf {n : Nat} (w : BitVec n) (k : Nat) : w.extractLsb' k 8 = byteOf (w.toNat / 2 ^ k) := by
  rw [byteOf, ← Nat.shiftRight_eq_div_pow]
  rfl

theorem bytes2_eq (w : BitVec 16) : bytes2 w = [byteOf (w.toNat / 256), byteOf w.toNat] := by
  simp [bytes2, extractLsb'_eq_byteOf]

theorem bytes3_eq (w : BitVec 24) : bytes3 w = [byteOf (w.toNat / 65536), byteOf (w.toNat / 256), byteOf w.toNat] := by
  simp [bytes3, extractLsb'_eq_byteOf]

theorem bytes4_eq (w : BitVec 32) :
    bytes4 w = [byteOf (w.toNat / 16777216), byteOf (w.toNat / 65536), byteOf (w.toNat / 256), byteOf w.toNat] := by
  simp [bytes4, extractLsb'_eq_byteOf]

/-- The bytes of a payload beyond those given are 0 (R125, R196). -/
theorem payloadOf_get (l : List Byte) (i : Fin 28) : (payloadOf l).get i = l.getD i.val 0 := by
  simp [payloadOf, Vector.get_eq_getElem]

theorem dataOf_get (l : List Byte) (i : Fin 25) : (dataOf l).get i = l.getD i.val 0 := by
  simp [dataOf, Vector.get_eq_getElem]

/-- Settles O30: each field, number and code has its own lemma, and the codes that are sent are read off their tables. -/
theorem requestParametersAreReadAsListed : Obligations.RequestParametersAreReadAsListed := by
  refine ⟨fun r => ⟨requestByte_eq r (by decide), requestByte_eq r (by decide), fun n h => requestByte_eq r h⟩,
    flowOf_eq_some_iff, flowOf_eq_none_iff, channelOf_eq_some_iff, channelOf_eq_none_iff, priorityOf_eq_some_iff, param2_toNat,
    contractOf_eq_some_iff, ⟨rfl, rfl, portOf_eq_none_iff⟩, ⟨rfl, rfl, rfl, rfl, modeOf_eq_none_iff⟩,
    ⟨rfl, rfl, optionOf_eq_none_iff⟩, ⟨rfl, rfl, rfl, viewOf_eq_none_iff⟩,
    fun c => ⟨rfl, rfl, actionOf_shedBelow_iff c, fun b => actionOf_eq_none_iff b c⟩,
    ⟨rfl, mapValueOf_eq_flow_iff, mapValueOf_eq_none_iff⟩, ⟨maskOf_eq_some_iff, maskOf_eq_none_iff⟩,
    ⟨rfl, rfl, rfl, rfl, rfl, rfl, rfl, rfl, rfl, rfl, rfl, rfl, rfl, rfl⟩, fun p f l => rfl,
    ⟨fun _ => rfl, bytes2_eq, bytes3_eq, bytes4_eq, payloadOf_get, dataOf_get⟩⟩

end Sys2Proof.Machine
